-- ==== Sys2Proof/Word.lean ====
section
/-! DEFINITION. The words of the Tulpex 2140: bytes, 16-bit and 32-bit fields, context numbers. -/

namespace Sys2Proof

/-- A byte of the line, of a message or of a coded area (01, 1.1). -/
abbrev Byte := BitVec 8

/-- A 16-bit field: sequence, stride, station, counter (01 R1, 03 R37). -/
abbrev Half := BitVec 16

/-- A 32-bit word: reading time, host port word (01 R1, 10 R153). -/
abbrev Word := BitVec 32

/-- A context number, 0..255 (01 R7, 03 R37). -/
abbrev Ctx := BitVec 8

end Sys2Proof
end

