-- ==== Sys2Proof/Config.lean ====
section
/-! DEFINITION. What the part fixes: sizes, limits and the identification word. The spec leaves no result
undefined, so there is no free value here. -/

namespace Sys2Proof.Config

/-- Word 0 of the register window: part 2140, revision 1 (10 R153). -/
def identification : Word := 0x21400001#32

/-- Bytes of each message FIFO (10 R154). -/
def fifoBytes : Nat := 4096

/-- Committed messages the transmit message FIFO holds at most (10 R154). -/
def maxMessages : Nat := 32

/-- Words the message under construction holds at most (10 R157). -/
def maxBuildWords : Nat := 60

/-- Shortest and longest field message in bytes (01 R16, 10 R158). -/
def minMessage : Nat := 14
def maxMessage : Nat := 238

/-- Longest payload in bytes (01, 1.1). -/
def maxPayload : Nat := 224

/-- Longest L of a line frame (01 R4). -/
def maxL : Nat := 250

/-- Entries of the Feedback Queue (06 R103). -/
def feedbackEntries : Nat := 16

/-- Entries of one FEEDBACK frame at most (06 R112). -/
def entriesPerFrame : Nat := 4

end Sys2Proof.Config
end

