-- ==== Sys2Proof/Syntax.lean ====
section
/-! DEFINITION. The commands of the block: one constructor for each row of spec/opcode_table.json, with the
operands the step needs from outside (the table gives none). -/

namespace Sys2Proof

/-- The direction of a context: receive or transmit (00, Terms). -/
inductive Dir where
  | receive
  | transmit
  deriving DecidableEq, Repr

/-- The commands (spec/opcode_table.json). -/
inductive Instr where
  /-- RECEIVE_FRAME: bytes received on RXD (07 R118 to R124). -/
  | receiveFrame (bytes : List Byte)
  /-- EXPANDER_FRAME_TAKE: the Expander takes the oldest staged frame (04 R62). -/
  | expanderFrameTake
  /-- EXPAND_FULL: the Expander's transaction for a FULL frame (04 R67). -/
  | expandFull
  /-- EXPAND_DELTA: the Expander's transaction for a DELTA frame (04 R70). -/
  | expandDelta
  /-- EXPAND_BRIEF: the Expander's transaction for a BRIEF frame (04 R72). -/
  | expandBrief
  /-- RX_ENTRY_WRITE: the Expander writes the receive entry (04 R64). -/
  | rxEntryWrite
  /-- EXPANDER_ABANDONED_GRANT: a transaction of a frame a link reset abandoned ends at its grant (04 R65). -/
  | expanderAbandonedGrant
  /-- ACK_APPLY: the transaction of a received ACK entry (04 R80). -/
  | ackApply
  /-- REFRESH_APPLY: the transaction of a received REFRESH entry (04 R81). -/
  | refreshApply
  /-- NEXT_FRAME_CHOICE: the transmitter tests for a frame start (08 R133). -/
  | nextFrameChoice
  /-- TAKE: the Compressor's take transaction (05 R85). -/
  | take
  /-- TAKE_ABANDONED_GRANT: a take that waited across a link reset ends at its grant (05 R100). -/
  | takeAbandonedGrant
  /-- FEEDBACK_FRAME_SENT: the last byte of a FEEDBACK frame is sent (08 R134). -/
  | feedbackFrameSent
  /-- MESSAGE_FRAME_SENT: the last byte of a message frame is sent (08 R135). -/
  | messageFrameSent
  /-- CTS_NEGATED: CTS is negated (08 R138). -/
  | ctsNegated
  /-- CTS_ASSERTED: CTS is asserted (08 R136). -/
  | ctsAsserted
  /-- ABORT_REQUEST: the Compressor's abort request transaction (05 R99). -/
  | abortRequest
  /-- TIMER_OVERFLOW: the TREF tick that finds the running count at 0xFFFFFFFF (09 R140). -/
  | timerOverflow
  /-- LINE_SILENT: the running tick whose period brings the silence counter to a nonzero T_silent (07 R128). -/
  | lineSilent
  /-- STATISTICS_BOUNDARY: the running tick whose period brings the boundary counter to S (09 R151). -/
  | statisticsBoundary
  /-- SWEEP_VISIT: the Age Sweep's visit transaction (09 R146). -/
  | sweepVisit
  /-- STORAGE_ERROR: stored bits of one record change (03 R48). -/
  | storageError (dir : Dir) (n : Ctx) (bits : List Nat)
  /-- STARTUP_WALK_END: the start-up walk ends (03 R57). -/
  | startupWalkEnd
  /-- READ_RX: host writes command code 1 (10 R160). -/
  | readRx
  /-- READ_TX: host writes command code 2 (10 R160). -/
  | readTx
  /-- LOAD_RX: host writes command code 3 (10 R160). -/
  | loadRx
  /-- LOAD_TX: host writes command code 4 (10 R161). -/
  | loadTx
  /-- RETIRE_RX: host writes command code 5 (10 R160). -/
  | retireRx
  /-- RETIRE_TX: host writes command code 6 (10 R160). -/
  | retireTx
  /-- PIN: host writes command code 7 (10 R160). -/
  | pin
  /-- UNPIN: host writes command code 8 (10 R160). -/
  | unpin
  /-- RETIRE_ALL_RX: host writes command code 9 (10 R162). -/
  | retireAllRx
  /-- RETIRE_ALL_TX: host writes command code 10 (10 R162). -/
  | retireAllTx
  /-- WALK_STEP: one transaction of a RETIRE_ALL walk (10 R162). -/
  | walkStep
  /-- COMMAND_TRANSACTION: the granted transaction of an accepted command (03 R44). -/
  | commandTransaction
  /-- FIND_TX: host writes command code 11 (10 R161). -/
  | findTx
  /-- OPEN_BANK: host writes command code 12 (02 R31). -/
  | openBank
  /-- CLOSE_BANK: host writes command code 13 (02 R32). -/
  | closeBank
  /-- SELECT_TX_BANK: host writes command code 14 (02 R33). -/
  | selectTxBank
  /-- CLEAR_DEGRADED: host writes command code 15 (03 R60). -/
  | clearDegraded
  /-- SNAPSHOT: host writes command code 16 (09 R152). -/
  | snapshot
  /-- LINK_RESET: host writes command code 17 (10 R166). The row has no operand: `plain` carries nothing. -/
  | linkReset (plain : Unit)
  /-- DEVICE_RESET: host writes command code 18 (10 R167). -/
  | deviceReset
  /-- UNKNOWN_COMMAND: host writes a command code that names no command (10 R159). -/
  | unknownCommand (code : Word)
  /-- RECORD_WINDOW_WRITE: host writes word i of the record window (10 R159). -/
  | recordWindowWrite (i : Fin 8) (w : Word)
  /-- RECEIVE_ENABLE: host writes the receive enable (07 R117). -/
  | receiveEnable (on : Bool)
  /-- TRANSMIT_ENABLE: host writes the transmit enable (08 R131). -/
  | transmitEnable (on : Bool)
  /-- DISCARD: host writes one to DISCARD (10 R156). -/
  | discard
  /-- CANCEL: host writes one to CANCEL (10 R157). -/
  | cancel
  /-- RECEIVE_DATA: host reads the receive data port (10 R155). -/
  | receiveData
  /-- TRANSMIT_DATA: host writes the transmit data port (10 R157). -/
  | transmitData (w : Word)
  /-- COMMIT: host writes the commit word (10 R158). -/
  | commit (w : Word)
  /-- TABLE_SELECT: host writes table select (02 R28). -/
  | tableSelect (w : Word)
  /-- TABLE_DATA_WRITE: host writes table data (02 R29). -/
  | tableDataWrite (w : Word)
  /-- TABLE_DATA_READ: host reads table data (02 R30). -/
  | tableDataRead
  /-- ERROR_CAPTURE_WRITE: host writes the error capture register (03 R54). -/
  | errorCaptureWrite (w : Word)
  /-- EVENT_FLAGS_WRITE: host writes the event flags word (10 R163). -/
  | eventFlagsWrite (w : Word)
  /-- ALARMS_WRITE: host writes the alarms word (10 R164). -/
  | alarmsWrite (w : Word)
  /-- MONITOR_SELECT: host writes monitor select (10 R165). -/
  | monitorSelect (w : Word)
  /-- TIMER_TRANSFER: host writes the transfer action (09 R141). -/
  | timerTransfer
  /-- SINGLE_INCREMENT: host writes the single increment action (09 R141). -/
  | singleIncrement
  /-- TIMER_RUN: host writes the run flag (09 R141). -/
  | timerRun (on : Bool)
  /-- CONFIGURATION_WRITE: host writes word `addr` of the register window (10 R153). -/
  | configurationWrite (addr : BitVec 6) (w : Word)
  /-- RESET_ASSERT: the RESET input is asserted (10 R153). -/
  | resetAssert
  /-- RESET_RELEASE: the RESET input is released (10 R167). -/
  | resetRelease
  /-- TREF_TICK: a tick of TREF (09 R140). -/
  | trefTick
  /-- IDLE_FILL_BYTE: the modem's transmit clock takes one byte (08 R132). -/
  | idleFillByte
  deriving DecidableEq, Repr

end Sys2Proof
end

