-- ==== Sys2Proof/WellFormed.lean ====
section
/-! DEFINITION. Which commands are well formed: the operands that a row of the table cannot have. -/

namespace Sys2Proof

/-- The words of the register window that have a row of their own in the table, so that a write of one of them is
not a CONFIGURATION_WRITE (10 R153): control 1, event flags 3, alarms 5, transmit data 8, commit 9, command 10, record
window 13 to 20, table select 21, table data 22, error capture 24, timer control 27, monitor select 38. -/
def ownRowWords : List (BitVec 6) :=
  [1, 3, 5, 8, 9, 10, 13, 14, 15, 16, 17, 18, 19, 20, 21, 22, 24, 27, 38]

/-- A storage error changes one or more bits, each once (03 R48). -/
def storageBitsOk (bits : List Nat) : Bool := !bits.isEmpty && decide bits.Nodup

/-- A code that names no command (10, 10.4: the codes are 1 to 18). -/
def unknownCode (code : Word) : Bool := decide (code = 0#32 ∨ 18#32 < code)

/-- The well-formed commands. -/
def Instr.wellFormed : Instr → Bool
  | .receiveFrame _ => true
  | .expanderFrameTake => true
  | .expandFull => true
  | .expandDelta => true
  | .expandBrief => true
  | .rxEntryWrite => true
  | .expanderAbandonedGrant => true
  | .ackApply => true
  | .refreshApply => true
  | .nextFrameChoice => true
  | .take => true
  | .takeAbandonedGrant => true
  | .feedbackFrameSent => true
  | .messageFrameSent => true
  | .ctsNegated => true
  | .ctsAsserted => true
  | .abortRequest => true
  | .timerOverflow => true
  | .lineSilent => true
  | .statisticsBoundary => true
  | .sweepVisit => true
  | .storageError _ _ bits => storageBitsOk bits
  | .startupWalkEnd => true
  | .readRx => true
  | .readTx => true
  | .loadRx => true
  | .loadTx => true
  | .retireRx => true
  | .retireTx => true
  | .pin => true
  | .unpin => true
  | .retireAllRx => true
  | .retireAllTx => true
  | .walkStep => true
  | .commandTransaction => true
  | .findTx => true
  | .openBank => true
  | .closeBank => true
  | .selectTxBank => true
  | .clearDegraded => true
  | .snapshot => true
  | .linkReset _ => true
  | .deviceReset => true
  | .unknownCommand code => unknownCode code
  | .recordWindowWrite _ _ => true
  | .receiveEnable _ => true
  | .transmitEnable _ => true
  | .discard => true
  | .cancel => true
  | .receiveData => true
  | .transmitData _ => true
  | .commit _ => true
  | .tableSelect _ => true
  | .tableDataWrite _ => true
  | .tableDataRead => true
  | .errorCaptureWrite _ => true
  | .eventFlagsWrite _ => true
  | .alarmsWrite _ => true
  | .monitorSelect _ => true
  | .timerTransfer => true
  | .singleIncrement => true
  | .timerRun _ => true
  | .configurationWrite addr _ => !ownRowWords.contains addr
  | .resetAssert => true
  | .resetRelease => true
  | .trefTick => true
  | .idleFillByte => true

end Sys2Proof
end

