-- ==== Sys2Proof/Machine/State.lean ====
section
/-! DEFINITION. The state of the block as plain data, block by block (00, Block Diagram), its value after device reset,
and the reasons a command can stop (there are none). -/

namespace Sys2Proof.Machine

/-! ## Messages, records, entries -/

/-- The seven key bytes of a header (01, 1.1). -/
structure Key where
  origin  : Half
  target  : Half
  service : Byte
  cls     : Byte
  route   : Byte
  deriving DecidableEq, Repr

/-- The 14-byte header of a field message (01, 1.1). -/
structure Header where
  key  : Key
  seq  : Half
  time : Word
  len  : Byte
  deriving DecidableEq, Repr

/-- A committed field message as its n bytes (01 R16). -/
abbrev Message := List Byte

/-- The contents of a record, held in the record array with check bits (03 R37). `tally` is the failure count of a
receive record and the full count of a transmit record, `uses` the expanded count and the sent count. -/
structure Contents where
  key    : Key
  seq    : Half
  time   : Word
  stride : Half
  tally  : BitVec 3
  age    : Byte
  pinned : Bool
  uses   : Half
  deriving DecidableEq, Repr

/-- The contents of a FREE or DAMAGED record (03 R37). -/
def Contents.zero : Contents :=
  { key := ⟨0, 0, 0, 0, 0⟩, seq := 0, time := 0, stride := 0, tally := 0, age := 0, pinned := false, uses := 0 }

/-- The states of a receive context (04, 4.1). -/
inductive RxState where
  | free
  | live
  | suspect
  | lost
  | damaged
  deriving DecidableEq, Repr

/-- The states of a transmit context (05, 5.1). `opened` is the manual's OPEN. -/
inductive TxState where
  | free
  | opening
  | opened
  | refreshing
  | damaged
  deriving DecidableEq, Repr

/-- A record: its state (state table), its contents, and which of the stored bits of its contents and check bits have
changed since they were written (03 R37, R48), in rising order without repeats. -/
structure Record (σ : Type) where
  st    : σ
  c     : Contents
  flips : List Nat
  deriving DecidableEq, Repr

/-- A FREE receive record as the start-up walk writes it (03 R57). -/
def freeRx : Record RxState := ⟨.free, .zero, []⟩

/-- A FREE transmit record as the start-up walk writes it (03 R57). -/
def freeTx : Record TxState := ⟨.free, .zero, []⟩

/-- The kinds of a line frame (01, 1.2.1). -/
inductive FrameKind where
  | raw
  | full
  | delta
  | brief
  | feedback
  deriving DecidableEq, Repr

/-- The kinds of a feedback entry (01, 1.7). -/
inductive FbKind where
  | ack
  | refresh
  deriving DecidableEq, Repr

/-- A feedback entry (06, 6.1). -/
structure FbEntry where
  kind : FbKind
  n    : Ctx
  deriving DecidableEq, Repr

/-- A receive message FIFO entry: the fields of its status word, its header and its payload (01 R14, R15). -/
structure RxEntry where
  kind       : FrameKind
  repaired   : BitVec 2
  isNew      : Bool
  replaced   : Bool
  restored   : Bool
  notStored  : Bool
  lostBefore : Bool
  n          : Ctx
  header     : Header
  payload    : List Byte
  deriving DecidableEq, Repr

/-! ## Code banks (02) -/

/-- Bank A and bank B. -/
inductive BankId where
  | a
  | b
  deriving DecidableEq, Repr

/-- The three tables of a bank: context numbers, sequence deltas and strides, zigzag residuals (02, 2.1). -/
inductive TableId where
  | c
  | s
  | t
  deriving DecidableEq, Repr

/-- One entry of a code table (02 R19). -/
structure CodeEntry where
  last   : Bool
  xcount : BitVec 4
  deriving DecidableEq, Repr

/-- A code table: eight entries and the control word (02 R19). -/
structure CodeTable where
  entries : Vector CodeEntry 8
  pol     : Bool
  short   : Bool
  sx      : BitVec 4
  deriving DecidableEq, Repr

/-- A table of a bank with its entry pointer (02, 2.4). -/
structure BankTable where
  table : CodeTable
  ptr   : BitVec 3
  deriving DecidableEq, Repr

/-- The states of a bank (02, 2.4). -/
inductive BankState where
  | invalid
  | loading
  | valid
  deriving DecidableEq, Repr

/-- A bank: its state and its three tables (02, 2.4). -/
structure Bank where
  st : BankState
  c  : BankTable
  s  : BankTable
  t  : BankTable
  deriving DecidableEq, Repr

/-- The Code Banks block (02 R27, R28). -/
structure Banks where
  a        : Bank
  b        : Bank
  selBank  : BankId
  selTable : TableId
  deriving DecidableEq, Repr

/-- The default code of bank A (02 R26). -/
def defaultTable : CodeTable :=
  { entries := #v[⟨false, 0⟩, ⟨false, 1⟩, ⟨false, 2⟩, ⟨false, 3⟩, ⟨false, 4⟩, ⟨false, 6⟩, ⟨false, 8⟩, ⟨true, 12⟩]
    pol := false, short := false, sx := 0 }

/-- The contents of bank B after a device reset (02 R26). -/
def zeroTable : CodeTable :=
  { entries := Vector.replicate 8 ⟨false, 0⟩, pol := false, short := false, sx := 0 }

/-! ## Context store and arbiter (03) -/

/-- One table of 256 things, by context number. -/
abbrev Table (α : Type) := Vector α 256

/-- A filled slot of the key index (03 R40). -/
structure Slot where
  n   : Ctx
  sig : Byte
  deriving DecidableEq, Repr

/-- A bucket of four slots (03 R40). -/
abbrev Bucket := Vector (Option Slot) 4

/-- Where the slot of a transmit context is (03 R41). -/
structure SlotRef where
  bucket : BitVec 6
  slot   : Fin 4
  deriving DecidableEq, Repr

/-- The store states (03 R56). -/
inductive StoreState where
  | starting
  | ready
  | degraded
  deriving DecidableEq, Repr

/-- The requesters of the store, in ring order (03 R45, R46). -/
inductive Requester where
  | expander
  | compressor
  | command
  | sweep
  deriving DecidableEq, Repr

/-- What the error capture describes (03, 3.6). -/
structure Capture where
  uncorrected : Bool
  dir         : Dir
  n           : Ctx
  req         : Requester
  deriving DecidableEq, Repr

/-- The Context Store Controller's state but for its arbiter (03). -/
structure Store where
  rx      : Table (Record RxState)
  tx      : Table (Record TxState)
  index   : Vector Bucket 64
  refs    : Table (Option SlotRef)
  free    : Table Bool
  st      : StoreState
  capture : Option Capture
  lost    : Bool
  uncorr  : Byte
  deriving DecidableEq, Repr

/-- The store arbiter: who waits, who holds the store, who was granted last (03 R46), and whether the error capture held an
uncorrected error at the last grant, which CLEAR_DEGRADED tests (03 R60; log 26: DEDUCED, safe). -/
structure Arbiter where
  wExp    : Bool
  wComp   : Bool
  wCmd    : Bool
  wSweep  : Bool
  granted : Option Requester
  last    : Requester
  tested  : Bool
  deriving DecidableEq, Repr

/-! ## Expander and Compressor (04, 05) -/

/-- The Expander's frame in work, decoded (04, 4.2). A feedback frame is the entry to apply next and those after it. -/
inductive ExpWork where
  | full (n : Ctx) (h : Header) (stride : Half) (payload : List Byte)
  | delta (n : Ctx) (d : Nat) (r : Int) (stride : Option Half) (check : BitVec 7) (payload : List Byte)
  | brief (n : Ctx) (check : BitVec 7) (payload : List Byte)
  | feedback (e : FbEntry) (rest : List FbEntry)
  deriving DecidableEq, Repr

/-- Where the Expander stands with its frame in work (04 R62, R64, R65): `busy` has asked for its transaction, `deliver`
has ended it and has its entry to write, the last two are a frame a link reset has abandoned while its request waited
and while its transaction was in progress. -/
inductive ExpState where
  | idle
  | busy (buf : Fin 2) (w : ExpWork)
  | deliver (buf : Fin 2) (e : RxEntry)
  | abandonedWaiting
  | abandonedRunning (w : ExpWork)
  deriving DecidableEq, Repr

/-- The line CRC modes (01 R13). -/
inductive CrcMode where
  | none
  | crc16
  | crc32
  deriving DecidableEq, Repr

/-- The configuration a transmitted frame takes at its frame start (08 R130). -/
structure TxFormat where
  sync     : List Byte
  addrWide : Bool
  peer     : Half
  crc      : CrcMode
  deriving DecidableEq, Repr

/-- What becomes of a message whose take has not ended: sent, abandoned when the take has ended (08 R137), or discarded
at the grant of a take that waited across a link reset (05 R100). -/
inductive TakeFate where
  | send
  | abandon
  | discard
  deriving DecidableEq, Repr

/-- The Compressor's work (05, 5.2). -/
inductive CompWork where
  | idle
  | taking (m : Message) (fmt : TxFormat) (fate : TakeFate)
  | sending
  | aborting (n : Ctx)
  deriving DecidableEq, Repr

/-- The Compressor (05; 02 R27). -/
structure Compressor where
  work        : CompWork
  working     : BankId
  pendingBank : Option BankId
  deriving DecidableEq, Repr

/-! ## Line Receiver (07) -/

/-- The configuration a received frame takes at its sync (07 R129). -/
structure RxFormat where
  addrWide    : Bool
  station     : Half
  stationMask : Half
  group       : Half
  groupMask   : Half
  rxLimit     : Byte
  crc         : CrcMode
  deriving DecidableEq, Repr

/-- Why a frame is skipped (07 R120, R122). -/
inductive SkipWhy where
  | rejected
  | overrun
  deriving DecidableEq, Repr

/-- The receiver states (07 R117) with what has been received of the frame. In `frame`, `hasLen` says that the length
has been read into the buffer; in `skip`, `left` is none until the length has been read, then the bytes still to pass. -/
inductive RxLineState where
  | disabled
  | hunt (window : List Byte)
  | address (f : RxFormat) (got : List Byte)
  | frame (f : RxFormat) (addr : List Byte) (buf : Fin 2) (hasLen : Bool) (crc : List Byte)
  | skip (f : RxFormat) (why : SkipWhy) (left : Option Nat)
  deriving DecidableEq, Repr

/-- The states of a staging buffer (07, 7.4). -/
inductive BufState where
  | free
  | filling
  | staged
  | inWork
  deriving DecidableEq, Repr

/-- A staging buffer: L, and the kind byte and body received so far (07 R121). -/
structure StagingBuffer where
  st   : BufState
  len  : Byte
  data : List Byte
  deriving DecidableEq, Repr

/-- The Line Receiver with the two staging buffers (07). -/
structure LineRx where
  enable  : Bool
  st      : RxLineState
  bufs    : Vector StagingBuffer 2
  order   : List (Fin 2)
  badRun  : BitVec 4
  goodRun : BitVec 4
  silence : Byte
  deriving DecidableEq, Repr

/-! ## Line Transmitter (08) -/

/-- The transmitter states (08 R131). -/
inductive TxLineState where
  | disabled
  | idle
  | held
  | frame
  deriving DecidableEq, Repr

/-- The frame in flight (08): its kind and, for FULL, DELTA and BRIEF, its transmit context number. -/
structure InFlight where
  kind : FrameKind
  n    : Option Ctx
  deriving DecidableEq, Repr

/-- The Line Transmitter (08). `rest` is what has not yet been sent of the frame in flight. -/
structure LineTx where
  enable   : Bool
  st       : TxLineState
  inFlight : Option InFlight
  rest     : List Byte
  gap      : BitVec 4
  alt      : Bool
  deriving DecidableEq, Repr

/-! ## Time (09) -/

/-- The Interval Timer (09 R140). -/
structure Timer where
  count  : Word
  reload : Word
  run    : Bool
  deriving DecidableEq, Repr

/-- The Age Sweep: IDLE (no index) or RUNNING, and the pending ticks (09 R143). -/
structure Sweep where
  idx  : Option (BitVec 9)
  pend : BitVec 2
  deriving DecidableEq, Repr

/-- The Statistics Unit (09 R150, R151; selection 10 R153). -/
structure Stats where
  live     : Vector Half 30
  snap     : Vector Half 30
  boundary : Byte
  sel      : BitVec 5
  selSnap  : Bool
  deriving DecidableEq, Repr

/-! ## Host Port (10) -/

/-- The Host Port FIFOs and the lost mark (10, 10.2; 07 R126). -/
structure HostFifos where
  rx        : List RxEntry
  readPos   : Nat
  lostMark  : Bool
  committed : List Message
  build     : List Word
  overrun   : Bool
  reason    : BitVec 3
  deriving DecidableEq, Repr

/-- The result codes (10, 10.3). -/
inductive Result where
  | ok
  | notFound
  | badArgument
  | badRecord
  | notFree
  | duplicateKey
  | bucketFull
  | bankInUse
  | bankInvalid
  | capturePending
  | notReady
  | busy
  deriving DecidableEq, Repr

/-- The commands whose work is one store transaction (03 R45). -/
inductive StoreCmd where
  | readRx
  | readTx
  | loadRx
  | loadTx
  | retireRx
  | retireTx
  | pin
  | unpin
  | findTx
  | clearDegraded
  deriving DecidableEq, Repr

/-- The Command Unit's state: IDLE, BUSY with one transaction, BUSY in a RETIRE_ALL walk (10 R159, R162). -/
inductive CmdState where
  | idle
  | busy (c : StoreCmd) (n : Ctx) (dir : Dir)
  | walk (dir : Dir) (i : Byte)
  deriving DecidableEq, Repr

/-- The Command Unit (10, 10.3). -/
structure CmdUnit where
  st       : CmdState
  window   : Vector Word 8
  argument : Word
  result   : Result
  refusal  : Result
  found    : Byte
  deriving DecidableEq, Repr

/-- An alarm: its live state and its change latch (10 R164). -/
structure Alarm where
  live  : Bool
  latch : Bool
  deriving DecidableEq, Repr

/-- A view of the context monitor (10 R165). -/
structure View where
  code  : BitVec 3
  valid : Bool
  age   : Byte
  seq   : Half
  deriving DecidableEq, Repr

/-- The Status and Interrupt Unit (10, 10.5 and 10.6). Bit 0 of `events` is never set: RX_MESSAGE is a level.
`alEnable` holds the enables of LOSS_OF_FRAMING, LINE_SILENT and DEGRADED from bit 0 up (log 27: DESIGN CHOICE, unsafe). -/
structure StatusUnit where
  events   : BitVec 14
  evEnable : BitVec 14
  alEnable : BitVec 3
  lof      : Alarm
  silent   : Alarm
  degraded : Alarm
  selRx    : Ctx
  selTx    : Ctx
  viewRx   : View
  viewTx   : View
  deriving DecidableEq, Repr

/-! ## Configuration and pins -/

/-- The configuration registers, words 28 to 37 (10 R153). -/
structure Settings where
  syncPattern  : Word
  syncMask     : Word
  syncLen      : BitVec 3
  addrWide     : Bool
  crc          : CrcMode
  station      : Half
  stationMask  : Half
  group        : Half
  groupMask    : Half
  peer         : Half
  rxLimit      : Byte
  kBad         : BitVec 4
  kGood        : BitVec 4
  tSilent      : Byte
  idleFill     : Byte
  gap          : BitVec 4
  ctsCheck     : Bool
  failLimit    : BitVec 3
  repairDepth  : BitVec 2
  ackEnable    : Bool
  optimistic   : BitVec 3
  degThreshold : Byte
  rxIdle       : Byte
  txIdle       : Byte
  statLimit    : Byte
  deriving DecidableEq, Repr

/-- The pins (00, Signals): CTS and RESET (true is asserted), the data bus after the last read that has a row, and what
the last transmit step put on TXD. -/
structure Pins where
  cts      : Bool
  resetPin : Bool
  dataOut  : Word
  txd      : List Byte
  deriving DecidableEq, Repr

/-- The whole block. `pending` is the queue of commands, first in first out. -/
structure State where
  pending : List Instr
  pins    : Pins
  cfg     : Settings
  banks   : Banks
  store   : Store
  arb     : Arbiter
  exp     : ExpState
  comp    : Compressor
  fbq     : List FbEntry
  lrx     : LineRx
  ltx     : LineTx
  timer   : Timer
  sweep   : Sweep
  stats   : Stats
  host    : HostFifos
  cu      : CmdUnit
  stat    : StatusUnit
  deriving DecidableEq, Repr

/-! ## Device reset -/

/-- The configuration after a device reset (01 R3, 07 R116, 08 R130, 04 R61, 05 R83, 03 R55, 09 R149, R151). -/
def Settings.reset : Settings :=
  { syncPattern := 0x5AC30000#32, syncMask := 0, syncLen := 2, addrWide := false, crc := .crc16
    station := 0, stationMask := 0, group := 0x00FF#16, groupMask := 0, peer := 0
    rxLimit := 250#8, kBad := 4, kGood := 2, tSilent := 0
    idleFill := 0xFF#8, gap := 1, ctsCheck := false
    failLimit := 3, repairDepth := 1, ackEnable := true, optimistic := 2
    degThreshold := 4, rxIdle := 32, txIdle := 32, statLimit := 1 }

/-- The banks after a device reset (02 R26 to R28). -/
def Banks.reset : Banks :=
  { a := ⟨.valid, ⟨defaultTable, 0⟩, ⟨defaultTable, 0⟩, ⟨defaultTable, 0⟩⟩
    b := ⟨.invalid, ⟨zeroTable, 0⟩, ⟨zeroTable, 0⟩, ⟨zeroTable, 0⟩⟩
    selBank := .a, selTable := .c }

/-- The store after a device reset: STARTING, and what the start-up walk writes (03 R57; the walk's writes are taken at
its start, log 9: DESIGN CHOICE, safe). -/
def Store.reset : Store :=
  { rx := Vector.replicate 256 freeRx, tx := Vector.replicate 256 freeTx
    index := Vector.replicate 64 (Vector.replicate 4 none)
    refs := Vector.replicate 256 none, free := Vector.replicate 256 true
    st := .starting, capture := none, lost := false, uncorr := 0 }

/-- The arbiter after a device reset: the Age Sweep counts as last granted (03 R46). -/
def Arbiter.reset : Arbiter :=
  { wExp := false, wComp := false, wCmd := false, wSweep := false, granted := none, last := .sweep
    tested := false }

/-- A FREE staging buffer. -/
def StagingBuffer.empty : StagingBuffer := ⟨.free, 0, []⟩

/-- The view the start-up walk leaves (10 R165). -/
def View.afterReset : View := ⟨0, true, 0, 0⟩

/-- The pins after reset (log 10: DESIGN CHOICE, unsafe). -/
def Pins.reset : Pins := { cts := true, resetPin := false, dataOut := 0, txd := [] }

/-- The block right after a device reset (10 R167 and the chapters of the blocks). -/
def State.reset : State :=
  { pending := []
    pins := .reset
    cfg := .reset
    banks := .reset
    store := .reset
    arb := .reset
    exp := .idle
    comp := { work := .idle, working := .a, pendingBank := none }
    fbq := []
    lrx := { enable := false, st := .disabled, bufs := #v[.empty, .empty], order := []
             badRun := 0, goodRun := 0, silence := 0 }
    ltx := { enable := false, st := .disabled, inFlight := none, rest := [], gap := 0, alt := false }
    timer := { count := 0, reload := 0, run := false }
    sweep := { idx := none, pend := 0 }
    stats := { live := Vector.replicate 30 0, snap := Vector.replicate 30 0, boundary := 0
               sel := 0, selSnap := false }
    host := { rx := [], readPos := 0, lostMark := false, committed := [], build := [], overrun := false, reason := 0 }
    cu := { st := .idle, window := Vector.replicate 8 0, argument := 0, result := .ok, refusal := .ok, found := 0 }
    stat := { events := 0, evEnable := 0, alEnable := 0, lof := ⟨false, false⟩, silent := ⟨false, false⟩
              degraded := ⟨false, false⟩, selRx := 0, selTx := 0, viewRx := .afterReset, viewTx := .afterReset } }

/-! ## Named updates, one for each field -/

def State.setPending (v : List Instr) (s : State) : State := { s with pending := v }
def State.setPins (v : Pins) (s : State) : State := { s with pins := v }
def State.setCfg (v : Settings) (s : State) : State := { s with cfg := v }
def State.setBanks (v : Banks) (s : State) : State := { s with banks := v }
def State.setStore (v : Store) (s : State) : State := { s with store := v }
def State.setArb (v : Arbiter) (s : State) : State := { s with arb := v }
def State.setExp (v : ExpState) (s : State) : State := { s with exp := v }
def State.setComp (v : Compressor) (s : State) : State := { s with comp := v }
def State.setFbq (v : List FbEntry) (s : State) : State := { s with fbq := v }
def State.setLrx (v : LineRx) (s : State) : State := { s with lrx := v }
def State.setLtx (v : LineTx) (s : State) : State := { s with ltx := v }
def State.setTimer (v : Timer) (s : State) : State := { s with timer := v }
def State.setSweep (v : Sweep) (s : State) : State := { s with sweep := v }
def State.setStats (v : Stats) (s : State) : State := { s with stats := v }
def State.setHost (v : HostFifos) (s : State) : State := { s with host := v }
def State.setCu (v : CmdUnit) (s : State) : State := { s with cu := v }
def State.setStat (v : StatusUnit) (s : State) : State := { s with stat := v }

/-! ## Stops -/

/-- The faults of the block: none, since nothing in the spec stops the machine. -/
inductive Fault where
  deriving DecidableEq, Repr

/-- The refusals of a command. -/
inductive Refusal where
  /-- Raised by `exec` for a command without a meaning, by its mnemonic; safe. No command of this model raises it. -/
  | notModelled (mnemonic : String)
  deriving DecidableEq, Repr

end Sys2Proof.Machine
end

