-- ==== Sys2Proof/Machine/Bits.lean ====
section
/-! DEFINITION. Bit fields, byte order, saturating counts and the tables by context number. -/

namespace Sys2Proof.Machine

/-- The `len` bits of a host word from bit `lo` up (10 R153). -/
def field (w : Word) (lo len : Nat) : BitVec len := w.extractLsb' lo len

/-- A field put at bit `lo` of a host word. -/
def place {n : Nat} (lo : Nat) (v : BitVec n) : Word := v.setWidth 32 <<< lo

/-- A flag put at bit `lo` of a host word. -/
def placeBit (lo : Nat) (b : Bool) : Word := place lo (BitVec.ofBool b)

/-- A count that holds at its maximum (00, Conventions 6). -/
def satInc {n : Nat} (v : BitVec n) : BitVec n := if v = BitVec.allOnes n then v else v + 1

/-- The nearest value within `lo .. hi` (10 R153). -/
def clamp {n : Nat} (lo hi v : BitVec n) : BitVec n := if v < lo then lo else if hi < v then hi else v

/-- Words needed for `n` bytes. -/
def wordsFor (n : Nat) : Nat := (n + 3) / 4

/-- The bytes of a 16-bit and a 32-bit field, most significant first (01 R1). -/
def bytes16 (h : Half) : List Byte := [h.extractLsb' 8 8, h.extractLsb' 0 8]
def bytes32 (w : Word) : List Byte :=
  [w.extractLsb' 24 8, w.extractLsb' 16 8, w.extractLsb' 8 8, w.extractLsb' 0 8]

/-- A 16-bit and a 32-bit field from its bytes, most significant first (01 R1). -/
def half (hi lo : Byte) : Half := hi ++ lo
def word (b3 b2 b1 b0 : Byte) : Word := (b3 ++ b2 ++ b1 ++ b0 : BitVec 32)

/-- The bits of a byte, most significant first (01 R12, R13) and from bit 0 upward (02 R21). -/
def bitsMsb (b : Byte) : List Bool :=
  [b.getLsbD 7, b.getLsbD 6, b.getLsbD 5, b.getLsbD 4, b.getLsbD 3, b.getLsbD 2, b.getLsbD 1, b.getLsbD 0]
def bitsLsb (b : Byte) : List Bool := (bitsMsb b).reverse

/-- Bytes packed four to a word, the first in bits 31:24, zero bytes at the end (01 R14, R16). -/
def packWords : List Byte → List Word
  | [] => []
  | [a] => [word a 0 0 0]
  | [a, b] => [word a b 0 0]
  | [a, b, c] => [word a b c 0]
  | a :: b :: c :: d :: rest => word a b c d :: packWords rest

/-- The bytes of words packed as above. -/
def unpackWords (ws : List Word) : List Byte := ws.flatMap bytes32

/-- The byte whose bits from bit 0 upward are `bs`, zeros above (02 R24). -/
def byteOfBits (bs : List Bool) : Byte :=
  BitVec.ofNat 8 (bs.foldr (fun b acc => b.toNat + 2 * acc) 0)

/-- A bit stream packed into bytes from bit 0 upward, with zero pad bits (02 R24). -/
def packBits (bs : List Bool) : List Byte :=
  (List.range ((bs.length + 7) / 8)).map fun i => byteOfBits ((bs.drop (8 * i)).take 8)

/-- The thing of number `n` of a table. -/
def Table.look {α : Type} (t : Table α) (n : Ctx) : α := t[n.toNat]'n.isLt

/-- The table with thing `n` replaced. -/
def Table.put {α : Type} (t : Table α) (n : Ctx) (x : α) : Table α := t.set n.toNat x n.isLt

end Sys2Proof.Machine
end

