-- ==== Sys2Proof/Machine/Format.lean ====
section
/-! DEFINITION. Headers, keys, the header check, the line CRC, line frames and receive entries (01). -/

namespace Sys2Proof.Machine

/-- The seven key bytes in order (01, 1.1). -/
def Key.bytes (k : Key) : List Byte := bytes16 k.origin ++ bytes16 k.target ++ [k.service, k.cls, k.route]

/-- The bucket of a key: the exclusive-OR of its bytes, six low bits (01 R2). -/
def Key.bucket (k : Key) : BitVec 6 := (k.bytes.foldl (· ^^^ ·) 0).setWidth 6

/-- The signature of a key: the sum of its bytes modulo 256 (01 R2). -/
def Key.signature (k : Key) : Byte := k.bytes.foldl (· + ·) 0

/-- The 14 header bytes (01 R1). -/
def Header.bytes (h : Header) : List Byte := h.key.bytes ++ bytes16 h.seq ++ bytes32 h.time ++ [h.len]

/-- The header in the first 14 bytes of `b` (01 R1). -/
def Header.ofBytes (b : List Byte) : Header :=
  let at' := fun i => b.getD i 0
  { key := { origin := half (at' 0) (at' 1), target := half (at' 2) (at' 3)
             service := at' 4, cls := at' 5, route := at' 6 }
    seq := half (at' 7) (at' 8)
    time := word (at' 9) (at' 10) (at' 11) (at' 12)
    len := at' 13 }

/-- One bit of a cyclic check of `n` bits: feedback from the top bit, shift up, exclusive-OR with the low terms
(01 R12, R13). -/
def crcBit {n : Nat} (poly r : BitVec n) (b : Bool) : BitVec n :=
  if (b ^^ r.msb) then (r <<< 1) ^^^ poly else r <<< 1

/-- A cyclic check over bytes, each most significant bit first, from all ones (01 R12, R13). -/
def crcOver {n : Nat} (poly : BitVec n) (bs : List Byte) : BitVec n :=
  (bs.flatMap bitsMsb).foldl (crcBit poly) (BitVec.allOnes n)

/-- The header check over the 14 header bytes, not complemented (01 R12). -/
def headerCheck (h : Header) : BitVec 7 := crcOver 0x09#7 h.bytes

/-- The line CRC bytes over address, length, kind and body, complemented, low byte first (01 R13). -/
def lineCrc (m : CrcMode) (bs : List Byte) : List Byte :=
  match m with
  | .none => []
  | .crc16 => (bytes16 (~~~ crcOver 0x1021#16 bs)).reverse
  | .crc32 => (bytes32 (~~~ crcOver 0x04C11DB7#32 bs)).reverse

/-- How many CRC bytes a frame has (01 R13). -/
def CrcMode.count : CrcMode → Nat
  | .none => 0
  | .crc16 => 2
  | .crc32 => 4

/-- A 16-bit line address as its bytes on the line (01 R3). -/
def addrBytes (wide : Bool) (a : Half) : List Byte := if wide then bytes16 a else [a.setWidth 8]

/-- The frame as sent: sync, address, L, kind byte and body (`data`), line CRC (01 R3). -/
def lineFrame (f : TxFormat) (data : List Byte) : List Byte :=
  let covered := addrBytes f.addrWide f.peer ++ [BitVec.ofNat 8 data.length] ++ data
  f.sync ++ covered ++ lineCrc f.crc covered

/-- The first sync-length bytes of the sync pattern (01 R3). -/
def Settings.sync (c : Settings) : List Byte := (bytes32 c.syncPattern).take c.syncLen.toNat

/-- The configuration a transmitted frame takes at its start (08 R130). -/
def Settings.txFormat (c : Settings) : TxFormat := ⟨c.sync, c.addrWide, c.peer, c.crc⟩

/-- The configuration a received frame takes at its sync (07 R129). -/
def Settings.rxFormat (c : Settings) : RxFormat :=
  ⟨c.addrWide, c.station, c.stationMask, c.group, c.groupMask, c.rxLimit, c.crc⟩

/-- The code of a frame kind (01, 1.2.1). -/
def FrameKind.code : FrameKind → BitVec 3
  | .raw => 0
  | .full => 1
  | .delta => 2
  | .brief => 3
  | .feedback => 4

/-- The code of a feedback entry kind (01, 1.7). -/
def FbKind.code : FbKind → Byte
  | .ack => 1
  | .refresh => 2

/-- Bytes of FIFO storage an entry with payload length `p` occupies (01 R14). -/
def entrySize (p : Nat) : Nat := 4 * wordsFor (18 + p)

/-- Bytes of FIFO storage of an entry (01 R14). -/
def RxEntry.size (e : RxEntry) : Nat := entrySize e.payload.length

/-- The status word of an entry (01 R14). -/
def RxEntry.status (e : RxEntry) : Word :=
  place 0 e.kind.code ||| place 3 e.repaired ||| placeBit 8 e.isNew ||| placeBit 9 e.replaced |||
  placeBit 10 e.restored ||| placeBit 11 e.notStored ||| placeBit 12 e.lostBefore ||| place 16 e.n |||
  place 24 e.header.len

/-- The words of an entry as the host reads them (01 R14). -/
def RxEntry.words (e : RxEntry) : List Word := e.status :: packWords (e.header.bytes ++ e.payload)

/-- An entry with no flag (01 R15). -/
def plainEntry (k : FrameKind) (n : Ctx) (h : Header) (payload : List Byte) : RxEntry :=
  { kind := k, repaired := 0, isNew := false, replaced := false, restored := false, notStored := false
    lostBefore := false, n := n, header := h, payload := payload }

/-- The body of a FEEDBACK frame with its kind byte 0x04 (01 R10, 06 R112). -/
def feedbackData (es : List FbEntry) : List Byte :=
  0x04#8 :: BitVec.ofNat 8 es.length :: es.flatMap fun e => [e.kind.code, e.n]

end Sys2Proof.Machine
end

