-- ==== Sys2Proof/Machine/Code.lean ====
section
/-! DEFINITION. The run-in code: the code words of a table, decoding and encoding a value, zigzag form (02). -/

namespace Sys2Proof.Machine

/-- The run polarity: ones when POL is 0 (02 R19). -/
def CodeTable.runBit (t : CodeTable) : Bool := !t.pol

/-- The lowest entry whose END flag is set (02 R19). -/
def CodeTable.endEntry (t : CodeTable) : Option Nat := t.entries.toList.findIdx? (·.last)

/-- The effective x-count of entry R (02 R19). -/
def CodeTable.effX (t : CodeTable) (r : Nat) : Nat :=
  if t.short then t.sx.toNat else (t.entries.toList.getD r ⟨false, 0⟩).xcount.toNat

/-- A code word: its run length, whether a terminating bit closes it, its x-count (02 R19). -/
structure CodeWord where
  run  : Nat
  term : Bool
  x    : Nat
  deriving DecidableEq, Repr

/-- The code words of a table in order (02 R19). -/
def CodeTable.codeWords (t : CodeTable) : List CodeWord :=
  match t.endEntry with
  | some k => (List.range (k + 1)).map (fun r => ⟨r, true, t.effX r⟩) ++ [⟨k + 1, false, t.effX k⟩]
  | none => (List.range 8).map fun r => ⟨r, true, t.effX r⟩

/-- The number of values the code words `ws` cover (02 R20). -/
def spanOf (ws : List CodeWord) : Nat := (ws.map fun w => 2 ^ w.x).sum

/-- The base value of code word `i` (02 R20). -/
def CodeTable.base (t : CodeTable) (i : Nat) : Nat := spanOf (t.codeWords.take i)

/-- The top of the code (02 R20). -/
def CodeTable.top (t : CodeTable) : Nat := spanOf t.codeWords - 1

/-- The decoding faults of a field (02 R22). -/
inductive CodeFault where
  | overrun
  | short
  | range
  deriving DecidableEq, Repr

/-- Reads a run-in, `r` run bits having been read: the number of the code word and the bits after it (02 R21, R22). -/
def CodeTable.readRun (t : CodeTable) (r : Nat) : List Bool → Except CodeFault (Nat × List Bool)
  | [] => .error .short
  | b :: bs =>
    if b = t.runBit then
      if t.endEntry = some r then .ok (r + 1, bs)
      else if r + 1 = 8 then .error .overrun
      else t.readRun (r + 1) bs
    else .ok (r, bs)

/-- Reads `n` x-bits, the first the most significant (02 R21, R22). -/
def readX : Nat → Nat → List Bool → Except CodeFault (Nat × List Bool)
  | 0, acc, bs => .ok (acc, bs)
  | _ + 1, _, [] => .error .short
  | n + 1, acc, b :: bs => readX n (2 * acc + b.toNat) bs

/-- Decodes one field: its value and the bits after it (02 R21). -/
def CodeTable.decode (t : CodeTable) (bits : List Bool) : Except CodeFault (Nat × List Bool) :=
  match t.readRun 0 bits with
  | .error f => .error f
  | .ok (i, bs) =>
    match t.codeWords[i]? with
    | none => .error .overrun
    | some w =>
      match readX w.x 0 bs with
      | .error f => .error f
      | .ok (x, rest) => .ok (t.base i + x, rest)

/-- Decodes a field and tests its accepted range (02 R22). -/
def CodeTable.decodeIn (t : CodeTable) (lo hi : Nat) (bits : List Bool) : Except CodeFault (Nat × List Bool) :=
  match t.decode bits with
  | .error f => .error f
  | .ok (v, rest) => if lo ≤ v ∧ v ≤ hi then .ok (v, rest) else .error .range

/-- The `n` low bits of `x`, most significant first (02 R24). -/
def xBits : Nat → Nat → List Bool
  | 0, _ => []
  | n + 1, x => x.testBit n :: xBits n x

/-- The code word whose range holds `v`, with its x-value (02 R20, R24). -/
def pickWord : List CodeWord → Nat → Option (CodeWord × Nat)
  | [], _ => none
  | w :: ws, v => if v < 2 ^ w.x then some (w, v) else pickWord ws (v - 2 ^ w.x)

/-- The bits of a code word with an x-value (02 R24). -/
def CodeTable.wordBits (t : CodeTable) (w : CodeWord) (x : Nat) : List Bool :=
  List.replicate w.run t.runBit ++ (if w.term then [!t.runBit] else []) ++ xBits w.x x

/-- The bits that encode `v`, or none when it is not encodable (02 R24, R25). -/
def CodeTable.encode (t : CodeTable) (v : Nat) : Option (List Bool) :=
  (pickWord t.codeWords v).map fun p => t.wordBits p.1 p.2

/-- The zigzag form of a residual and back (02 R23). -/
def zigzag (r : Int) : Nat := if 0 ≤ r then (2 * r).toNat else (-2 * r - 1).toNat
def unzigzag (z : Nat) : Int := if z % 2 = 0 then (z / 2 : Nat) else -(((z + 1) / 2 : Nat) : Int)

/-- A bank and a table by name. -/
def Banks.get (b : Banks) : BankId → Bank
  | .a => b.a
  | .b => b.b
def Banks.put (b : Banks) (i : BankId) (k : Bank) : Banks :=
  match i with
  | .a => { b with a := k }
  | .b => { b with b := k }
def Bank.get (k : Bank) : TableId → BankTable
  | .c => k.c
  | .s => k.s
  | .t => k.t
def Bank.put (k : Bank) (i : TableId) (t : BankTable) : Bank :=
  match i with
  | .c => { k with c := t }
  | .s => { k with s := t }
  | .t => { k with t := t }

/-- The bank bit of the kind byte (01, 1.2.1). -/
def BankId.bit : BankId → Bool
  | .a => false
  | .b => true

end Sys2Proof.Machine
end

