-- ==== Sys2Proof/Machine/Flags.lean ====
section
/-! DEFINITION. Statistics counters, events, alarms, the interrupt, statistics boundaries (09.5, 09.6, 10.5). -/

namespace Sys2Proof.Machine

/-- The 30 statistics counters (09, 9.5). -/
inductive Counter where
  | rxGood | rxCrcErr | rxMalformed | addrReject | rxOverrun | rxFifoDrop | expRaw | expFull | expDelta | expBrief
  | checkFail | repaired | discardNoContext | codeErr | ctxCreatedRx | ctxAged | txRaw | txFull | txDelta | txBrief
  | txRawTablefull | txEvict | txAborted | fbSent | fbReceived | fbStray | fbOverflow | eccCorr | eccUncorr
  | sweepOverrun
  deriving DecidableEq, Repr

/-- The number of a counter (09, 9.5). -/
def Counter.num : Counter → Fin 30
  | .rxGood => 0 | .rxCrcErr => 1 | .rxMalformed => 2 | .addrReject => 3 | .rxOverrun => 4 | .rxFifoDrop => 5
  | .expRaw => 6 | .expFull => 7 | .expDelta => 8 | .expBrief => 9 | .checkFail => 10 | .repaired => 11
  | .discardNoContext => 12 | .codeErr => 13 | .ctxCreatedRx => 14 | .ctxAged => 15 | .txRaw => 16 | .txFull => 17
  | .txDelta => 18 | .txBrief => 19 | .txRawTablefull => 20 | .txEvict => 21 | .txAborted => 22 | .fbSent => 23
  | .fbReceived => 24 | .fbStray => 25 | .fbOverflow => 26 | .eccCorr => 27 | .eccUncorr => 28 | .sweepOverrun => 29

/-- The live value of a counter (09 R150). -/
def State.count (s : State) (k : Counter) : Half := s.stats.live[k.num]

/-- The snapshot value of a counter (09 R150). -/
def State.snapCount (s : State) (k : Counter) : Half := s.stats.snap[k.num]

/-- Raises a live counter by one, holding at 65535 (09 R150). -/
def raise (k : Counter) (s : State) : State :=
  s.setStats { s.stats with live := s.stats.live.set k.num (satInc s.stats.live[k.num]) }

/-- The latched events, RX_MESSAGE apart (10.5). -/
inductive Event where
  | rxLost | rxUnderrun | txReject | txAborted | contextLost | feedbackOverflow | eccCorrected | eccUncorrected
  | sweepOverrun | period | commandDone | commandRefused | tableWriteIgnored
  deriving DecidableEq, Repr

/-- The bit of an event in the event flags word (10.5). -/
def Event.bit : Event → Nat
  | .rxLost => 1 | .rxUnderrun => 2 | .txReject => 3 | .txAborted => 4 | .contextLost => 5 | .feedbackOverflow => 6
  | .eccCorrected => 7 | .eccUncorrected => 8 | .sweepOverrun => 9 | .period => 10 | .commandDone => 11
  | .commandRefused => 12 | .tableWriteIgnored => 13

/-- Sets an event (10 R163). -/
def setEvent (e : Event) (s : State) : State :=
  s.setStat { s.stat with events := s.stat.events ||| 1#14 <<< e.bit }

/-- Whether a latched event is set. -/
def State.eventSet (s : State) (e : Event) : Bool := s.stat.events.getLsbD e.bit

/-- The event flags word: the latched events and the level RX_MESSAGE (10 R155, R163). -/
def State.eventFlags (s : State) : BitVec 14 := s.stat.events ||| (BitVec.ofBool (!s.host.rx.isEmpty)).setWidth 14

/-- The change latches (10 R164), LOSS_OF_FRAMING lowest and DEGRADED highest (log 27: DESIGN CHOICE, unsafe). -/
def State.latches (s : State) : BitVec 3 :=
  BitVec.ofBool s.stat.degraded.latch ++ BitVec.ofBool s.stat.silent.latch ++ BitVec.ofBool s.stat.lof.latch

/-- IRQ asserted: an event or change latch is set whose enable is set (10 R163). -/
def State.irq (s : State) : Bool :=
  decide (s.eventFlags &&& s.stat.evEnable ≠ 0) || decide (s.latches &&& s.stat.alEnable ≠ 0)

/-- A live state given a value: each change sets the change latch (10 R164). -/
def Alarm.to (live : Bool) (a : Alarm) : Alarm := if a.live = live then a else ⟨live, true⟩

def setLof (live : Bool) (s : State) : State := s.setStat { s.stat with lof := s.stat.lof.to live }
def setSilent (live : Bool) (s : State) : State := s.setStat { s.stat with silent := s.stat.silent.to live }
def setDegraded (live : Bool) (s : State) : State := s.setStat { s.stat with degraded := s.stat.degraded.to live }

/-- A statistics boundary, in one step: snapshots taken, live counters and the per-period uncorrected count cleared,
PERIOD set (09 R151, 03 R55). -/
def boundaryNow (s : State) : State :=
  (s.setStats { s.stats with snap := s.stats.live, live := Vector.replicate 30 0 })
    |> (fun s => s.setStore { s.store with uncorr := 0 })
    |> setEvent .period

end Sys2Proof.Machine
end

