-- ==== Sys2Proof/Machine/Ops.lean ====
section
/-! DEFINITION. The shared operations: the store arbiter, checked reads and writes of records, the error capture, the key
index, the feedback queue, the message FIFOs and the staging buffers (03, 06, 07.4, 10.2). -/

namespace Sys2Proof.Machine

/-! ## The store arbiter (03 R45, R46) -/

def Arbiter.waits (a : Arbiter) : Requester → Bool
  | .expander => a.wExp
  | .compressor => a.wComp
  | .command => a.wCmd
  | .sweep => a.wSweep

def Arbiter.setWait (v : Bool) (q : Requester) (a : Arbiter) : Arbiter :=
  match q with
  | .expander => { a with wExp := v }
  | .compressor => { a with wComp := v }
  | .command => { a with wCmd := v }
  | .sweep => { a with wSweep := v }

/-- The ring, counting from the requester after the one given (03 R46). -/
def ringAfter : Requester → List Requester
  | .expander => [.compressor, .command, .sweep, .expander]
  | .compressor => [.command, .sweep, .expander, .compressor]
  | .command => [.sweep, .expander, .compressor, .command]
  | .sweep => [.expander, .compressor, .command, .sweep]

/-- Grants the store to the first waiting requester of the ring, when no transaction is in progress (03 R46); `held`: the
error capture holds an uncorrected error, as R60 tests it at the grant. -/
def Arbiter.grant (held : Bool) (a : Arbiter) : Arbiter :=
  match a.granted with
  | some _ => a
  | none =>
    match (ringAfter a.last).find? a.waits with
    | some q => { a.setWait false q with granted := some q, last := q, tested := held }
    | none => a

/-- The error capture holds an uncorrected error (03 R53). -/
def Store.heldUncorrected (t : Store) : Bool :=
  match t.capture with
  | some k => k.uncorrected
  | none => false

/-- The arbiter acts unless the store is STARTING (03 R46, R57). -/
def arbitrate (s : State) : State :=
  if s.store.st = .starting then s else s.setArb (s.arb.grant s.store.heldUncorrected)

/-- A requester asks for a transaction (03 R45). -/
def request (q : Requester) (s : State) : State := arbitrate (s.setArb (s.arb.setWait true q))

/-- The transaction in progress ends and the store passes to the next (03 R44, R46). -/
def endTransaction (s : State) : State := arbitrate (s.setArb { s.arb with granted := none })

/-- The transaction in progress ends and its requester asks for its next one (03 R45). -/
def endAndRequest (q : Requester) (s : State) : State := endTransaction (s.setArb (s.arb.setWait true q))

/-- The requester holds the store. -/
def State.holds (s : State) (q : Requester) : Bool := decide (s.arb.granted = some q)

/-! ## Records and the context monitor (03 R44, 10 R165) -/

def State.rxRec (s : State) (n : Ctx) : Record RxState := Table.look s.store.rx n
def State.txRec (s : State) (n : Ctx) : Record TxState := Table.look s.store.tx n
def State.slotAt (s : State) (b : BitVec 6) (i : Fin 4) : Option Slot := (s.store.index[b.toNat]'b.isLt)[i]
def State.refOf (s : State) (n : Ctx) : Option SlotRef := Table.look s.store.refs n
def State.isFree (s : State) (n : Ctx) : Bool := Table.look s.store.free n

/-- The state codes of the record window (01, 1.13). -/
def RxState.code : RxState → BitVec 3
  | .free => 0
  | .live => 1
  | .suspect => 2
  | .lost => 3
  | .damaged => 7
def TxState.code : TxState → BitVec 3
  | .free => 0
  | .opening => 1
  | .opened => 2
  | .refreshing => 3
  | .damaged => 7

/-- A transmit context that has a slot: OPENING, OPEN or REFRESHING (03 R42). -/
def TxState.slotted : TxState → Bool
  | .free => false
  | .opening => true
  | .opened => true
  | .refreshing => true
  | .damaged => false

/-- A receive context that holds a key: LIVE, SUSPECT or LOST (03 R38). -/
def RxState.keyed : RxState → Bool
  | .free => false
  | .live => true
  | .suspect => true
  | .lost => true
  | .damaged => false

/-- A view of a record (10 R165). -/
def viewOf (code : BitVec 3) (c : Contents) : View := ⟨code, true, c.age, c.seq⟩

/-- The monitor's update for receive record `n` (10 R165). -/
def monitorRx (n : Ctx) (s : State) : State :=
  if s.stat.selRx = n then s.setStat { s.stat with viewRx := viewOf (s.rxRec n).st.code (s.rxRec n).c } else s

/-- The monitor's update for transmit record `n` (10 R165). -/
def monitorTx (n : Ctx) (s : State) : State :=
  if s.stat.selTx = n then s.setStat { s.stat with viewTx := viewOf (s.txRec n).st.code (s.txRec n).c } else s

/-- Writes a receive record with good check bits (03 R44, R48). -/
def writeRx (n : Ctx) (st : RxState) (c : Contents) (s : State) : State :=
  monitorRx n (s.setStore { s.store with rx := Table.put s.store.rx n ⟨st, c, []⟩ })

/-- Writes a transmit record with good check bits (03 R44, R48). -/
def writeTx (n : Ctx) (st : TxState) (c : Contents) (s : State) : State :=
  monitorTx n (s.setStore { s.store with tx := Table.put s.store.tx n ⟨st, c, []⟩ })

/-! ## Key index, slot references, free map (03 R40 to R43) -/

def setSlot (b : BitVec 6) (i : Fin 4) (x : Option Slot) (s : State) : State :=
  s.setStore { s.store with
    index := s.store.index.set b.toNat ((s.store.index[b.toNat]'b.isLt).set i x) b.isLt }

def setRef (n : Ctx) (x : Option SlotRef) (s : State) : State :=
  s.setStore { s.store with refs := Table.put s.store.refs n x }

def setFree (n : Ctx) (x : Bool) (s : State) : State :=
  s.setStore { s.store with free := Table.put s.store.free n x }

/-- Empties the slot that `n`'s reference names and clears the reference (03 R41, R42). -/
def dropSlot (n : Ctx) (s : State) : State :=
  match s.refOf n with
  | none => s
  | some r => setRef n none (setSlot r.bucket r.slot none s)

/-- The lowest-numbered empty slot of a bucket (03 R40). -/
def State.emptySlot (s : State) (b : BitVec 6) : Option (Fin 4) :=
  [0, 1, 2, 3].find? fun i => (s.slotAt b i).isNone

/-- The lowest-numbered number marked free (03 R43). -/
def State.lowestFree (s : State) : Option Ctx :=
  ((List.range 256).find? fun i => s.isFree (BitVec.ofNat 8 i)).map (BitVec.ofNat 8)

/-- Fills a slot for `n`, sets its reference and clears its free flag (03 R40 to R43). -/
def fillSlot (n : Ctx) (b : BitVec 6) (i : Fin 4) (sig : Byte) (s : State) : State :=
  setFree n false (setRef n (some ⟨b, i⟩) (setSlot b i (some ⟨n, sig⟩) s))

/-- Makes transmit record `n` FREE: slot emptied, reference cleared, free flag set, zero contents (03 R42, R43). -/
def freeTxRecord (n : Ctx) (s : State) : State :=
  writeTx n .free .zero (setFree n true (dropSlot n s))

/-! ## Storage errors (03 R48 to R58) -/

/-- A report to the error capture (03 R53). -/
def reportError (k : Capture) (s : State) : State :=
  match s.store.capture with
  | none => s.setStore { s.store with capture := some k }
  | some h =>
    if h.uncorrected = false ∧ k.uncorrected = true then
      s.setStore { s.store with capture := some k, lost := true }
    else s.setStore { s.store with lost := true }

/-- The conditions of R58, with the per-period count after its rise and the capture before the report (03 R58). -/
def State.mustDegrade (s : State) : Bool :=
  s.store.heldUncorrected ||
  (decide (s.cfg.degThreshold ≠ 0) && decide (s.cfg.degThreshold ≤ s.store.uncorr))

/-- READY becomes DEGRADED, with its alarm (03 R56, R58). -/
def degrade (s : State) : State :=
  if s.store.st = .ready then setDegraded true (s.setStore { s.store with st := .degraded }) else s

/-- A correctable read is counted, latched and reported (03 R49). -/
def noteCorrected (dir : Dir) (n : Ctx) (q : Requester) (s : State) : State :=
  s |> raise .eccCorr |> setEvent .eccCorrected |> reportError ⟨false, dir, n, q⟩

/-- An uncorrectable read is counted, latched, judged and reported (03 R50, R55, R58, R53). -/
def noteUncorrected (dir : Dir) (n : Ctx) (q : Requester) (s : State) : State :=
  let s1 := s |> raise .eccUncorr |> setEvent .eccUncorrected
    |> fun s => s.setStore { s.store with uncorr := satInc s.store.uncorr }
  let s2 := if s1.mustDegrade then degrade s1 else s1
  reportError ⟨true, dir, n, q⟩ s2

/-- A checked read of receive record `n` by requester `q`: one changed bit is corrected, two or more leave a FREE record
FREE and any other DAMAGED with zero contents (03 R48 to R50). -/
def readRx (q : Requester) (n : Ctx) (s : State) : State :=
  let r := s.rxRec n
  match r.flips with
  | [] => monitorRx n s
  | [_] => noteCorrected .receive n q (writeRx n r.st r.c s)
  | _ => noteUncorrected .receive n q (writeRx n (if r.st = .free then .free else .damaged) .zero s)

/-- A checked read of transmit record `n` by requester `q`; a damaged record loses its slot (03 R48 to R50, R42). -/
def readTx (q : Requester) (n : Ctx) (s : State) : State :=
  let r := s.txRec n
  match r.flips with
  | [] => monitorTx n s
  | [_] => noteCorrected .transmit n q (writeTx n r.st r.c s)
  | _ =>
    noteUncorrected .transmit n q
      (if r.st.slotted then writeTx n .damaged .zero (dropSlot n s) else writeTx n r.st .zero s)

/-- The search of the key index: the slots `is` of the bucket in order, reading the records whose signature matches
(05 R86, 03 R51). Answers the state after its reads and the match. -/
def searchSlots (q : Requester) (k : Key) : List (Fin 4) → State → State × Option Ctx
  | [], s => (s, none)
  | i :: is, s =>
    match s.slotAt k.bucket i with
    | none => searchSlots q k is s
    | some sl =>
      if sl.sig = k.signature then
        let s1 := readTx q sl.n s
        if (s1.txRec sl.n).st.slotted = true ∧ (s1.txRec sl.n).c.key = k then (s1, some sl.n)
        else searchSlots q k is s1
      else searchSlots q k is s

/-- The search over the four slots (05 R86). -/
def search (q : Requester) (k : Key) (s : State) : State × Option Ctx := searchSlots q k [0, 1, 2, 3] s

/-! ## The Feedback Queue (06 R103 to R110) -/

/-- The queue after an offer, and whether the offer was an overflow (06 R108, R109). -/
def offerTo (q : List FbEntry) (e : FbEntry) : List FbEntry × Bool :=
  match q.find? fun x => x.n = e.n with
  | some old =>
    if old.kind = .ack ∧ e.kind = .refresh then (q.map fun x => if x.n = e.n then e else x, false) else (q, false)
  | none =>
    if q.length < Config.feedbackEntries then (q ++ [e], false)
    else
      match e.kind with
      | .ack => (q, true)
      | .refresh => if q.any (fun x => x.kind = .ack) then (q.eraseP (fun x => x.kind = .ack) ++ [e], true) else (q, true)

/-- An offer to the queue (06 R108, R109). -/
def offer (e : FbEntry) (s : State) : State :=
  let r := offerTo s.fbq e
  if r.2 then setEvent .feedbackOverflow (raise .fbOverflow (s.setFbq r.1)) else s.setFbq r.1

/-- The removal of ACK `n` when receive context `n` becomes FREE (06 R110). -/
def removeAck (n : Ctx) (s : State) : State :=
  s.setFbq (s.fbq.filter fun x => !(decide (x.kind = .ack) && decide (x.n = n)))

/-- Makes receive record `n` FREE (03 R37, 06 R110). -/
def freeRxRecord (n : Ctx) (s : State) : State := removeAck n (writeRx n .free .zero s)

/-! ## Message FIFOs and the lost mark (10.2) -/

/-- Bytes held by the receive message FIFO (10 R154). -/
def HostFifos.rxBytes (h : HostFifos) : Nat := (h.rx.map RxEntry.size).sum

/-- Bytes a committed message occupies (10 R154). -/
def messageSize (m : Message) : Nat := 4 * wordsFor m.length

/-- Bytes held by the transmit message FIFO (10 R154). -/
def HostFifos.txBytes (h : HostFifos) : Nat := (h.committed.map messageSize).sum + 4 * h.build.length

/-- Discards the construction and clears its overrun flag, also when no word has been stored (10 R157; log 25: DEDUCED,
safe). -/
def clearBuild (s : State) : State := s.setHost { s.host with build := [], overrun := false }

/-- Frees the oldest receive entry (10 R155, R156). -/
def freeEntry (s : State) : State := s.setHost { s.host with rx := s.host.rx.tail, readPos := 0 }

/-- A frame was lost locally: the lost mark and RX_LOST (07 R126). -/
def markLost (s : State) : State := setEvent .rxLost (s.setHost { s.host with lostMark := true })

/-- The Expander writes an entry, which carries LOST_BEFORE and clears the mark when the mark is set (01 R15). -/
def pushEntry (e : RxEntry) (s : State) : State :=
  s.setHost { s.host with rx := s.host.rx ++ [{ e with lostBefore := s.host.lostMark }], lostMark := false }

/-! ## Staging buffers (07 R121) -/

def setBuf (b : Fin 2) (x : StagingBuffer) (s : State) : State :=
  s.setLrx { s.lrx with bufs := s.lrx.bufs.set b x }

/-- A buffer becomes FREE. -/
def releaseBuf (b : Fin 2) (s : State) : State := setBuf b .empty s

end Sys2Proof.Machine
end

