-- ==== Sys2Proof/Machine/Operands.lean ====
section
/-! DEFINITION. The forms of host words: the record window, the command codes, the configuration fields with their
ranges, and what a read of each word of the register window returns (01.13, 10). -/

namespace Sys2Proof.Machine

/-! ## The record window (01 R17, R18) -/

/-- The eight words a READ fills the window with: number, state code, contents, and the slot of a transmit record that
has one (01 R17). -/
def recordWords (n : Ctx) (code : BitVec 3) (c : Contents) (slot : Option (Fin 4)) : Vector Word 8 :=
  #v[place 0 code ||| placeBit 3 c.pinned ||| place 4 c.tally ||| place 8 c.age ||| place 24 n,
     place 16 c.key.origin ||| place 0 c.key.target,
     place 24 c.key.service ||| place 16 c.key.cls ||| place 8 c.key.route,
     place 16 c.seq ||| place 0 c.stride,
     c.time,
     place 0 c.uses,
     place 0 c.key.bucket ||| place 8 c.key.signature,
     match slot with
     | none => 0
     | some i => BitVec.ofNat 32 i.val ||| placeBit 8 true]

/-- The key in window words 1 and 2 (01 R18, 10 R161). -/
def windowKey (w : Vector Word 8) : Key :=
  { origin := field w[1] 16 16, target := field w[1] 0 16
    service := field w[2] 24 8, cls := field w[2] 16 8, route := field w[2] 8 8 }

/-- The fields a LOAD takes from the window (01 R18). -/
def windowContents (w : Vector Word 8) : Contents :=
  { key := windowKey w, seq := field w[3] 16 16, stride := field w[3] 0 16, time := w[4]
    tally := field w[0] 4 3, age := field w[0] 8 8, pinned := w[0].getLsbD 3, uses := field w[5] 0 16 }

/-- The receive record LOAD_RX installs, or none when the window is not loadable (01 R18). -/
def windowRx (w : Vector Word 8) : Option (RxState × Contents) :=
  let c := windowContents w
  match (field w[0] 0 3).toNat with
  | 0 => if c.tally = 0 ∧ c.pinned = false then some (.free, .zero) else none
  | 1 => if c.tally = 0 then some (.live, c) else none
  | 2 => if 1 ≤ c.tally.toNat ∧ c.tally.toNat ≤ 6 then some (.suspect, c) else none
  | 3 => if c.tally = 0 then some (.lost, c) else none
  | _ => none

/-- The transmit record LOAD_TX installs, or none when the window is not loadable (01 R18). -/
def windowTx (w : Vector Word 8) : Option (TxState × Contents) :=
  match (field w[0] 0 3).toNat with
  | 1 => some (.opening, windowContents w)
  | 2 => some (.opened, windowContents w)
  | 3 => some (.refreshing, windowContents w)
  | _ => none

/-! ## Commands and result codes (10.3, 10.4) -/

/-- The commands of the command word (10.4). -/
inductive Command where
  | readRx | readTx | loadRx | loadTx | retireRx | retireTx | pin | unpin | retireAllRx | retireAllTx | findTx
  | openBank | closeBank | selectTxBank | clearDegraded | snapshot | linkReset | deviceReset
  | unknown
  deriving DecidableEq, Repr

/-- The command a code names (10.4). -/
def commandOfCode (w : Word) : Command :=
  match w.toNat with
  | 1 => .readRx | 2 => .readTx | 3 => .loadRx | 4 => .loadTx | 5 => .retireRx | 6 => .retireTx | 7 => .pin
  | 8 => .unpin | 9 => .retireAllRx | 10 => .retireAllTx | 11 => .findTx | 12 => .openBank | 13 => .closeBank
  | 14 => .selectTxBank | 15 => .clearDegraded | 16 => .snapshot | 17 => .linkReset | 18 => .deviceReset
  | _ => .unknown

/-- The result codes (10.3). -/
def Result.code : Result → Byte
  | .ok => 0 | .notFound => 1 | .badArgument => 2 | .badRecord => 3 | .notFree => 4 | .duplicateKey => 5
  | .bucketFull => 6 | .bankInUse => 7 | .bankInvalid => 8 | .capturePending => 9 | .notReady => 10 | .busy => 11

/-- The context number of the argument register, and its direction (10 R153 word 11). -/
def CmdUnit.argN (u : CmdUnit) : Ctx := field u.argument 0 8
def CmdUnit.argDir (u : CmdUnit) : Dir := if u.argument.getLsbD 8 then .transmit else .receive

/-- The bank of the argument register: 0 names A, 1 names B (02 R27). -/
def CmdUnit.argBank (u : CmdUnit) : Option BankId :=
  match u.argN.toNat with
  | 0 => some .a
  | 1 => some .b
  | _ => none

/-! ## Configuration words 28 to 37 (10 R153) -/

/-- The line CRC mode of a two-bit code; 3 is stored as CRC-32 (10 R153). -/
def crcOfCode (v : BitVec 2) : CrcMode :=
  match v.toNat with
  | 0 => .none
  | 1 => .crc16
  | _ => .crc32
def CrcMode.code : CrcMode → BitVec 2
  | .none => 0
  | .crc16 => 1
  | .crc32 => 2

/-- The configuration after a write of word `a` of the window, each field at the nearest value in its range (10 R153). -/
def Settings.write (c : Settings) (a : Nat) (w : Word) : Settings :=
  match a with
  | 28 => { c with syncPattern := w }
  | 29 => { c with syncMask := w }
  | 30 => { c with syncLen := clamp 1 4 (field w 0 3), addrWide := w.getLsbD 8, crc := crcOfCode (field w 16 2) }
  | 31 => { c with station := field w 0 16, stationMask := field w 16 16 }
  | 32 => { c with group := field w 0 16, groupMask := field w 16 16 }
  | 33 => { c with peer := field w 0 16 }
  | 34 => { c with rxLimit := clamp 1 250 (field w 0 8), kBad := clamp 1 15 (field w 8 4)
                   kGood := clamp 1 15 (field w 12 4), tSilent := field w 16 8 }
  | 35 => { c with idleFill := field w 0 8, gap := field w 8 4, ctsCheck := w.getLsbD 16 }
  | 36 => { c with failLimit := clamp 1 7 (field w 0 3), repairDepth := field w 4 2, ackEnable := w.getLsbD 8
                   optimistic := field w 12 3 }
  | 37 => { c with degThreshold := field w 0 8, rxIdle := field w 8 8, txIdle := field w 16 8
                   statLimit := field w 24 8 }
  | _ => c

/-- The configuration words as they read (10 R153). -/
def Settings.read (c : Settings) (a : Nat) : Word :=
  match a with
  | 28 => c.syncPattern
  | 29 => c.syncMask
  | 30 => place 0 c.syncLen ||| placeBit 8 c.addrWide ||| place 16 c.crc.code
  | 31 => place 0 c.station ||| place 16 c.stationMask
  | 32 => place 0 c.group ||| place 16 c.groupMask
  | 33 => place 0 c.peer
  | 34 => place 0 c.rxLimit ||| place 8 c.kBad ||| place 12 c.kGood ||| place 16 c.tSilent
  | 35 => place 0 c.idleFill ||| place 8 c.gap ||| placeBit 16 c.ctsCheck
  | 36 => place 0 c.failLimit ||| place 4 c.repairDepth ||| placeBit 8 c.ackEnable ||| place 12 c.optimistic
  | 37 => place 0 c.degThreshold ||| place 8 c.rxIdle ||| place 16 c.txIdle ||| place 24 c.statLimit
  | _ => 0

/-! ## Status codes and reads of the register window (10 R153) -/

def StoreState.code : StoreState → BitVec 2
  | .starting => 0
  | .ready => 1
  | .degraded => 2

def RxLineState.code : RxLineState → BitVec 3
  | .disabled => 0
  | .hunt _ => 1
  | .address _ _ => 2
  | .frame _ _ _ _ _ => 3
  | .skip _ _ _ => 4

def TxLineState.code : TxLineState → BitVec 2
  | .disabled => 0
  | .idle => 1
  | .held => 2
  | .frame => 3

def CmdState.busyBit : CmdState → Bool
  | .idle => false
  | .busy _ _ _ => true
  | .walk _ _ => true

/-- The walk index of a RETIRE_ALL walk, 0 when none runs (10 R162). -/
def CmdState.walkIndex : CmdState → Byte
  | .idle => 0
  | .busy _ _ _ => 0
  | .walk _ i => i

def BankState.code : BankState → BitVec 2
  | .invalid => 0
  | .loading => 1
  | .valid => 2

def TableId.code : TableId → BitVec 2
  | .c => 0
  | .s => 1
  | .t => 2

def Requester.code : Requester → BitVec 2
  | .expander => 0
  | .compressor => 1
  | .command => 2
  | .sweep => 3

/-- The status word (10 R153 word 2). -/
def State.statusWord (s : State) : Word :=
  place 0 s.store.st.code ||| place 4 s.lrx.st.code ||| place 8 s.ltx.st.code ||| placeBit 12 s.cu.st.busyBit |||
  place 16 s.cu.st.walkIndex ||| placeBit 24 s.sweep.idx.isSome ||| place 26 s.sweep.pend

/-- The alarms word (10 R164): in each group of three bits LOSS_OF_FRAMING is lowest and DEGRADED highest (log 27: DESIGN
CHOICE, unsafe). -/
def State.alarmsWord (s : State) : Word :=
  placeBit 0 s.stat.lof.live ||| placeBit 1 s.stat.silent.live ||| placeBit 2 s.stat.degraded.live |||
  place 8 s.latches

/-- The word at the read position of the oldest receive entry, 0 when there is none (10 R155). -/
def State.nextRxWord (s : State) : Word :=
  match s.host.rx with
  | [] => 0
  | e :: _ => e.words.getD s.host.readPos 0

/-- The selected table with its pointer (02 R28). -/
def Banks.selected (b : Banks) : BankTable := (b.get b.selBank).get b.selTable

/-- The table data word as read (02 R30). -/
def BankTable.dataWord (t : BankTable) : Word :=
  place 0 (t.table.entries[t.ptr.toNat]'t.ptr.isLt).xcount |||
  placeBit 4 (t.table.entries[t.ptr.toNat]'t.ptr.isLt).last |||
  placeBit 8 t.table.pol ||| placeBit 9 t.table.short ||| place 10 t.table.sx ||| place 16 t.ptr

/-- The bank status word (02 R27). Bit 5 names the pending bank and reads 0 when there is none (log 24: DESIGN CHOICE,
safe). -/
def State.bankStatus (s : State) : Word :=
  place 0 s.banks.a.st.code ||| place 2 s.banks.b.st.code ||| placeBit 4 s.comp.working.bit |||
  match s.comp.pendingBank with
  | none => 0
  | some k => placeBit 5 k.bit ||| placeBit 6 true

/-- The error capture word (03 R53). Its kind, direction, requester and number read 0 while it is empty (log 24: DESIGN
CHOICE, safe). -/
def Store.captureWord (t : Store) : Word :=
  (match t.capture with
    | none => 0
    | some k => placeBit 0 true ||| placeBit 1 k.uncorrected ||| placeBit 2 (decide (k.dir = .transmit)) |||
        place 4 k.req.code ||| place 8 k.n) ||| placeBit 16 t.lost

/-- A view of the monitor as a word (10 R165). -/
def View.toWord (v : View) : Word :=
  place 0 v.code ||| placeBit 3 v.valid ||| place 8 v.age ||| place 16 v.seq

/-- The selected statistics counter; a number above 29 reads 0 (09 R150). -/
def Stats.selected (t : Stats) : Half :=
  (if t.selSnap then t.snap else t.live).toList.getD t.sel.toNat 0

/-- What a host read of word `a` returns; it changes nothing but for words 6 and 22, whose reads are the commands
RECEIVE_DATA and TABLE_DATA_READ (10 R153). Unnamed bits and the write-one actions of word 27 read 0 (log 12: DEDUCED,
safe). -/
def State.readWord (s : State) (a : BitVec 6) : Word :=
  if s.pins.resetPin then 0
  else
    match a.toNat with
    | 0 => Config.identification
    | 1 => placeBit 0 s.lrx.enable ||| placeBit 1 s.ltx.enable
    | 2 => s.statusWord
    | 3 => place 0 s.eventFlags
    | 4 => place 0 s.stat.evEnable ||| place 16 s.stat.alEnable
    | 5 => s.alarmsWord
    | 6 => s.nextRxWord
    | 7 => place 0 (BitVec.ofNat 13 s.host.rxBytes) ||| place 16 (BitVec.ofNat 8 s.host.rx.length) |||
        place 24 (BitVec.ofNat 6 s.host.readPos)
    | 9 => place 0 (BitVec.ofNat 13 s.host.txBytes) ||| place 13 s.host.reason |||
        place 16 (BitVec.ofNat 6 s.host.committed.length) ||| placeBit 23 s.host.overrun |||
        place 24 (BitVec.ofNat 6 s.host.build.length)
    | 11 => s.cu.argument
    | 12 => place 0 s.cu.result.code ||| place 8 s.cu.refusal.code ||| place 16 s.cu.found
    | 13 => s.cu.window[0]
    | 14 => s.cu.window[1]
    | 15 => s.cu.window[2]
    | 16 => s.cu.window[3]
    | 17 => s.cu.window[4]
    | 18 => s.cu.window[5]
    | 19 => s.cu.window[6]
    | 20 => s.cu.window[7]
    | 21 => place 0 s.banks.selTable.code ||| placeBit 4 s.banks.selBank.bit
    | 22 => s.banks.selected.dataWord
    | 23 => s.bankStatus
    | 24 => s.store.captureWord
    | 25 => s.timer.count
    | 26 => s.timer.reload
    | 27 => placeBit 0 s.timer.run
    | 38 => place 0 s.stat.selRx ||| place 8 s.stat.selTx
    | 39 => s.stat.viewRx.toWord
    | 40 => s.stat.viewTx.toWord
    | 41 => place 0 s.stats.sel ||| placeBit 8 s.stats.selSnap
    | 42 => place 0 s.stats.selected
    | n => s.cfg.read n

end Sys2Proof.Machine
end

