-- ==== Sys2Proof/Machine/LineReceiver.lean ====
section
/-! DEFINITION. The Line Receiver: bytes received, the receive enable, the silence alarm (07). -/

namespace Sys2Proof.Machine

/-! ## The framing and silence alarms (07 R127, R128) -/

/-- A bad frame: a CRC error or a length error (07 R127). -/
def badFrame (s : State) : State :=
  let s1 := s.setLrx { s.lrx with goodRun := 0, badRun := satInc s.lrx.badRun }
  if s1.stat.lof.live = false ∧ s1.cfg.kBad ≤ s1.lrx.badRun then setLof true s1 else s1

/-- A good frame (07 R124, R127, R128). -/
def goodFrame (s : State) : State :=
  let s1 := s.setLrx { s.lrx with badRun := 0, goodRun := satInc s.lrx.goodRun }
  let s2 := if s1.stat.lof.live = true ∧ s1.cfg.kGood ≤ s1.lrx.goodRun then setLof false s1 else s1
  setSilent false (s2.setLrx { s2.lrx with silence := 0 })

/-! ## Sync, address and length (07 R118 to R123) -/

/-- The receiver enters HUNT with an empty window (07 R118). -/
def enterHunt (s : State) : State := s.setLrx { s.lrx with st := .hunt [] }

/-- The sync match window after a byte (07 R118). -/
def windowAfter (w : List Byte) (b : Byte) : List Byte := (if w.length = 4 then w.tail else w) ++ [b]

/-- The latest sync-length bytes of the window match the pattern under the mask (07 R118). -/
def syncMatches (c : Settings) (w : List Byte) : Bool :=
  let n := c.syncLen.toNat
  let latest := w.drop (w.length - n)
  decide (n ≤ w.length) &&
    (latest.zip (c.sync.zip (bytes32 c.syncMask))).all fun p => decide ((p.1 ^^^ p.2.1) &&& ~~~p.2.2 = 0)

/-- An address agrees with one of the configured addresses over the address width, except where the mask is set
(07 R119). -/
def addressMatches (wide : Bool) (a own mask : Half) : Bool :=
  let diff := (a ^^^ own) &&& ~~~mask
  if wide then decide (diff = 0) else decide (diff &&& 0x00FF#16 = 0)

/-- The address of the address bytes received (07 R119). -/
def addressOf : List Byte → Half
  | [lo] => half 0 lo
  | hi :: lo :: _ => half hi lo
  | [] => 0

/-- The address is accepted: it passes the station test or the group test (07 R119). -/
def RxFormat.accepts (f : RxFormat) (a : Half) : Bool :=
  addressMatches f.addrWide a f.station f.stationMask || addressMatches f.addrWide a f.group f.groupMask

/-- The staging buffer a claim obtains (07 R121). -/
def LineRx.claim (l : LineRx) : Option (Fin 2) :=
  if l.bufs[(0 : Fin 2)].st = .free then some 0 else if l.bufs[(1 : Fin 2)].st = .free then some 1 else none

/-- The length byte passes its test (07 R123). -/
def RxFormat.lengthOk (f : RxFormat) (l : Byte) : Bool :=
  decide (1 ≤ l.toNat) && decide (l.toNat ≤ Config.maxL) && decide (l.toNat ≤ f.rxLimit.toNat)

/-- The last address byte has been received (07 R119). -/
def addressRead (f : RxFormat) (addr : List Byte) (s : State) : State :=
  if f.accepts (addressOf addr) then
    match s.lrx.claim with
    | some k => setBuf k ⟨.filling, 0, []⟩ (s.setLrx { s.lrx with st := .frame f addr k false [] })
    | none => s.setLrx { s.lrx with st := .skip f .overrun none }
  else s.setLrx { s.lrx with st := .skip f .rejected none }

/-- A length error (07 R123). -/
def lengthError (s : State) : State := enterHunt (badFrame (raise .rxMalformed s))

/-- The end of a skipped frame (07 R120, R122). -/
def skipEnds (why : SkipWhy) (s : State) : State :=
  match why with
  | .rejected => enterHunt (raise .addrReject s)
  | .overrun => enterHunt (markLost (raise .rxOverrun s))

/-- A frame in a buffer has ended with its CRC received (07 R124). -/
def frameEnds (f : RxFormat) (addr : List Byte) (k : Fin 2) (crc : List Byte) (s : State) : State :=
  let b := s.lrx.bufs[k]
  if lineCrc f.crc (addr ++ [b.len] ++ b.data) = crc then
    let s1 := setBuf k { b with st := .staged } s
    enterHunt (goodFrame (raise .rxGood (s1.setLrx { s1.lrx with order := s1.lrx.order ++ [k] })))
  else enterHunt (badFrame (raise .rxCrcErr (releaseBuf k s)))

/-- A byte in FRAME (07 R123, R124). -/
def frameByte (f : RxFormat) (addr : List Byte) (k : Fin 2) (hasLen : Bool) (crc : List Byte) (x : Byte) (s : State) :
    State :=
  let b := s.lrx.bufs[k]
  if hasLen = false then
    if f.lengthOk x then setBuf k { b with len := x } (s.setLrx { s.lrx with st := .frame f addr k true [] })
    else lengthError (releaseBuf k s)
  else if b.data.length < b.len.toNat then
    let s1 := setBuf k { b with data := b.data ++ [x] } s
    if b.data.length + 1 = b.len.toNat ∧ f.crc.count = 0 then frameEnds f addr k [] s1 else s1
  else
    let got := crc ++ [x]
    if got.length = f.crc.count then frameEnds f addr k got s
    else s.setLrx { s.lrx with st := .frame f addr k true got }

/-- A byte in SKIP (07 R120, R122). -/
def skipByte (f : RxFormat) (why : SkipWhy) (left : Option Nat) (x : Byte) (s : State) : State :=
  match left with
  | some n => if n ≤ 1 then skipEnds why s else s.setLrx { s.lrx with st := .skip f why (some (n - 1)) }
  | none =>
    match why with
    | .rejected =>
      if 1 ≤ x.toNat ∧ x.toNat ≤ Config.maxL then
        s.setLrx { s.lrx with st := .skip f why (some (x.toNat + f.crc.count)) }
      else skipEnds why s
    | .overrun =>
      if f.lengthOk x then s.setLrx { s.lrx with st := .skip f why (some (x.toNat + f.crc.count)) }
      else lengthError s

/-- One byte received on RXD (07 R117 to R124). -/
def receiveByte (x : Byte) (s : State) : State :=
  match s.lrx.st with
  | .disabled => s
  | .hunt w =>
    let w' := windowAfter w x
    if syncMatches s.cfg w' then s.setLrx { s.lrx with st := .address s.cfg.rxFormat [] }
    else s.setLrx { s.lrx with st := .hunt w' }
  | .address f got =>
    let got' := got ++ [x]
    if got'.length = (if f.addrWide then 2 else 1) then addressRead f got' s
    else s.setLrx { s.lrx with st := .address f got' }
  | .frame f addr k hasLen crc => frameByte f addr k hasLen crc x s
  | .skip f why left => skipByte f why left x s

/-- RECEIVE_FRAME: bytes received on RXD, one after another (07 R118 to R124; log 5: DESIGN CHOICE, safe). -/
def execReceiveFrame (bytes : List Byte) (s : State) : Host.Outcome State Fault Refusal :=
  .next (bytes.foldl (fun t x => receiveByte x t) s)

/-! ## The receive enable (07 R117) -/

/-- The receiver starts when it is enabled, DISABLED and the store is not STARTING (07 R117). -/
def startReceiver (s : State) : State :=
  if s.lrx.enable = true ∧ s.lrx.st = .disabled ∧ s.store.st ≠ .starting then enterHunt s else s

/-- A frame being received is abandoned: a buffer held for it is released (07 R117). -/
def abandonReception (s : State) : State :=
  match s.lrx.st with
  | .disabled => s
  | .hunt _ => s
  | .address _ _ => s
  | .frame _ _ k _ _ => releaseBuf k s
  | .skip _ _ _ => s

/-- A write of the receive enable (07 R117). -/
def writeReceiveEnable (on : Bool) (s : State) : State :=
  if on then startReceiver (s.setLrx { s.lrx with enable := true })
  else
    let s1 := abandonReception s
    s1.setLrx { s1.lrx with enable := false, st := .disabled }

/-- A host write does nothing while RESET is asserted (10 R153). -/
def hostAccess (f : State → State) (s : State) : State := if s.pins.resetPin then s else f s

/-- RECEIVE_ENABLE (07 R117). -/
def execReceiveEnable (on : Bool) (s : State) : Host.Outcome State Fault Refusal :=
  .next (hostAccess (writeReceiveEnable on) s)

end Sys2Proof.Machine
end

