-- ==== Sys2Proof/Machine/Expander.lean ====
section
/-! DEFINITION. The Expander: validation of a staged frame, the transactions of FULL, DELTA and BRIEF frames and of
received feedback, the writing of entries (01.8, 04). -/

namespace Sys2Proof.Machine

/-! ## Validation (01 R5 to R11) -/

/-- The outcome of a frame's validation (01 R11). -/
inductive Verdict where
  | malformed
  | codeError
  | raw (h : Header) (payload : List Byte)
  | work (w : ExpWork)
  deriving DecidableEq, Repr

/-- A 16-bit field of a body at byte `i`, most significant byte first. -/
def halfAt (b : List Byte) (i : Nat) : Half := half (b.getD i 0) (b.getD (i + 1) 0)

/-- A RAW body (01 R6). -/
def checkRaw (body : List Byte) : Verdict :=
  let h := Header.ofBytes body
  if 14 ≤ body.length ∧ h.len.toNat = body.length - 14 ∧ h.len.toNat ≤ Config.maxPayload then .raw h (body.drop 14)
  else .malformed

/-- A FULL body (01 R7). -/
def checkFull (body : List Byte) : Verdict :=
  let h := Header.ofBytes (body.drop 1)
  if 17 ≤ body.length ∧ h.len.toNat = body.length - 17 ∧ h.len.toNat ≤ Config.maxPayload then
    .work (.full (body.getD 0 0) h (halfAt body 15) (body.drop 17))
  else .malformed

/-- The entry kind of a code (01 R10). -/
def fbKindOf (b : Byte) : Option FbKind :=
  match b.toNat with
  | 1 => some .ack
  | 2 => some .refresh
  | _ => none

/-- The entries of a FEEDBACK body after its count, or none when a kind is faulty (01 R10). -/
def fbEntries : List Byte → Option (List FbEntry)
  | [] => some []
  | [_] => none
  | k :: n :: rest =>
    match fbKindOf k, fbEntries rest with
    | some kind, some es => some (⟨kind, n⟩ :: es)
    | _, _ => none

/-- A FEEDBACK body (01 R10). -/
def checkFeedback (body : List Byte) : Verdict :=
  match body with
  | [] => .malformed
  | n :: rest =>
    if 1 ≤ n.toNat ∧ n.toNat ≤ Config.entriesPerFrame ∧ rest.length = 2 * n.toNat then
      match fbEntries rest with
      | some (e :: es) => .work (.feedback e es)
      | _ => .malformed
    else .malformed

/-- The decoded fields of a coded area: context number, and for DELTA the delta, the residual and the stride. -/
structure Coded where
  n      : Ctx
  d      : Nat
  r      : Int
  stride : Option Half
  rest   : List Bool
  deriving DecidableEq, Repr

/-- Decodes the coded area of a BRIEF frame (01 R9, 02 R22). -/
def decodeBrief (k : Bank) (bits : List Bool) : Except CodeFault Coded :=
  match k.c.table.decodeIn 0 255 bits with
  | .error f => .error f
  | .ok (n, rest) => .ok ⟨BitVec.ofNat 8 n, 0, 0, none, rest⟩

/-- Decodes the coded area of a DELTA frame, with a stride when S is set (01 R8, 02 R22). -/
def decodeDelta (k : Bank) (withStride : Bool) (bits : List Bool) : Except CodeFault Coded :=
  match k.c.table.decodeIn 0 255 bits with
  | .error f => .error f
  | .ok (n, b1) =>
    match k.s.table.decodeIn 1 32767 b1 with
    | .error f => .error f
    | .ok (d, b2) =>
      match k.t.table.decodeIn 0 65535 b2 with
      | .error f => .error f
      | .ok (z, b3) =>
        if withStride then
          match k.s.table.decodeIn 0 65535 b3 with
          | .error f => .error f
          | .ok (v, b4) => .ok ⟨BitVec.ofNat 8 n, d, unzigzag z, some (BitVec.ofNat 16 v), b4⟩
        else .ok ⟨BitVec.ofNat 8 n, d, unzigzag z, none, b3⟩

/-- Steps 3 to 6 of the validation of a DELTA or BRIEF body (01 R8, R9, R11; 02 R35). -/
def checkCoded (k : Bank) (delta withStride : Bool) (body : List Byte) : Verdict :=
  if k.st ≠ .valid then .codeError
  else
    let bits := body.flatMap bitsLsb
    match (if delta then decodeDelta k withStride bits else decodeBrief k bits) with
    | .error _ => .codeError
    | .ok c =>
      let coded := (bits.length - c.rest.length + 7) / 8
      match body.drop coded with
      | [] => .malformed
      | chk :: payload =>
        if chk.msb then .malformed
        else if payload.length ≤ Config.maxPayload then
          if delta then .work (.delta c.n c.d c.r c.stride (chk.setWidth 7) payload)
          else .work (.brief c.n (chk.setWidth 7) payload)
        else .malformed

/-- The validation of a staged frame, its kind byte first (01 R5, R11). -/
def validate (banks : Banks) (data : List Byte) : Verdict :=
  match data with
  | [] => .malformed
  | kb :: body =>
    let bank := kb.getLsbD 3
    let sFlag := kb.getLsbD 4
    if kb.extractLsb' 5 3 ≠ 0 then .malformed
    else
      match (kb.extractLsb' 0 3).toNat with
      | 0 => if bank || sFlag then .malformed else checkRaw body
      | 1 => if bank || sFlag then .malformed else checkFull body
      | 2 => checkCoded (banks.get (if bank then .b else .a)) true sFlag body
      | 3 => if sFlag then .malformed else checkCoded (banks.get (if bank then .b else .a)) false false body
      | 4 => if bank || sFlag then .malformed else checkFeedback body
      | _ => .malformed

/-! ## Taking a staged frame (04 R62, R63, R66, R79) -/

/-- The payload length of the entry a frame would produce; a feedback frame produces none (04 R63). -/
def ExpWork.payloadLength : ExpWork → Option Nat
  | .full _ _ _ p => some p.length
  | .delta _ _ _ _ _ p => some p.length
  | .brief _ _ p => some p.length
  | .feedback _ _ => none

/-- The receive message FIFO has room for an entry with payload length `p` (04 R63). -/
def State.rxRoom (s : State) (p : Nat) : Bool := decide (s.host.rxBytes + entrySize p ≤ Config.fifoBytes)

/-- A frame dropped for want of FIFO space (04 R63). -/
def dropFrame (b : Fin 2) (s : State) : State := releaseBuf b (markLost (raise .rxFifoDrop s))

/-- The Expander asks for the transaction of its frame in work. -/
def startWork (b : Fin 2) (w : ExpWork) (s : State) : State := request .expander (s.setExp (.busy b w))

/-- What the Expander does with a validated frame in buffer `b` (04 R62, R63, R66, R79). -/
def handleVerdict (b : Fin 2) (v : Verdict) (s : State) : State :=
  match v with
  | .malformed => releaseBuf b (raise .rxMalformed s)
  | .codeError => releaseBuf b (raise .codeErr s)
  | .raw h p =>
    if s.rxRoom p.length then releaseBuf b (raise .expRaw (pushEntry (plainEntry .raw 0 h p) s)) else dropFrame b s
  | .work w =>
    match w.payloadLength with
    | none => startWork b w (raise .fbReceived s)
    | some p => if s.rxRoom p then startWork b w s else dropFrame b s

/-- The idle Expander takes the oldest staged frame (04 R62). -/
def expanderTake (s : State) : State :=
  match s.exp, s.lrx.order with
  | .idle, b :: rest =>
    let data := s.lrx.bufs[b].data
    let s1 := s.setLrx { s.lrx with order := rest, bufs := s.lrx.bufs.set b { s.lrx.bufs[b] with st := .inWork } }
    handleVerdict b (validate s.banks data) s1
  | _, _ => s

/-- EXPANDER_FRAME_TAKE (04 R62). -/
def execExpanderFrameTake (s : State) : Host.Outcome State Fault Refusal := .next (expanderTake s)

/-! ## Transactions on receive records (04 R64, R67 to R78) -/

/-- The Expander's granted transaction: its work, and its buffer unless a link reset has abandoned the frame. -/
def State.expTransaction (s : State) : Option (Option (Fin 2) × ExpWork) :=
  if s.holds .expander then
    match s.exp with
    | .busy b w => some (some b, w)
    | .abandonedRunning w => some (none, w)
    | _ => none
  else none

/-- The end of a frame's work: buffer released, Expander idle (04 R62). -/
def endWork (b : Option (Fin 2)) (s : State) : State :=
  match b with
  | some k => releaseBuf k (s.setExp .idle)
  | none => s.setExp .idle

/-- The end of a frame's transaction: the frame has an entry to write, or its work ends (04 R62, R64, R65). -/
def endExpTransaction (b : Option (Fin 2)) (e : Option RxEntry) (s : State) : State :=
  endTransaction
    (match b, e with
      | some k, some entry => s.setExp (.deliver k entry)
      | _, _ => endWork b s)

/-- The contents a stored FULL frame writes (04 R68). -/
def storedContents (h : Header) (stride : Half) (pinned : Bool) (uses : Half) : Contents :=
  { key := h.key, seq := h.seq, time := h.time, stride := stride, tally := 0, age := 0, pinned := pinned, uses := uses }

/-- A stored FULL frame's ACK offer (04 R67, 06 R105, R111). -/
def offerAck (n : Ctx) (s : State) : State := if s.cfg.ackEnable then offer ⟨.ack, n⟩ s else s

/-- The transaction of a FULL frame (04 R67 to R69, R78): the state after it and the entry. -/
def fullTransaction (n : Ctx) (h : Header) (stride : Half) (p : List Byte) (s0 : State) : State × RxEntry :=
  let s := raise .expFull (readRx .expander n s0)
  let r := s.rxRec n
  let e := plainEntry .full n h p
  match r.st with
  | .free =>
    if s.store.st = .degraded then (s, { e with notStored := true })
    else (offerAck n (raise .ctxCreatedRx (writeRx n .live (storedContents h stride false 0) s)), { e with isNew := true })
  | .damaged => (offerAck n (writeRx n .live (storedContents h stride false 0) s), { e with restored := true })
  | .live =>
    if r.c.key = h.key then (offerAck n (writeRx n .live (storedContents h stride r.c.pinned r.c.uses) s), e)
    else (offerAck n (writeRx n .live (storedContents h stride r.c.pinned 0) s), { e with replaced := true })
  | .suspect =>
    if r.c.key = h.key then (offerAck n (writeRx n .live (storedContents h stride r.c.pinned r.c.uses) s), e)
    else (offerAck n (writeRx n .live (storedContents h stride r.c.pinned 0) s), { e with replaced := true })
  | .lost =>
    if r.c.key = h.key then
      (offerAck n (writeRx n .live (storedContents h stride r.c.pinned r.c.uses) s), { e with restored := true })
    else (offerAck n (writeRx n .live (storedContents h stride r.c.pinned 0) s), { e with replaced := true })

/-- EXPAND_FULL (04 R67). -/
def execExpandFull (s : State) : Host.Outcome State Fault Refusal :=
  .next
    (match s.expTransaction with
      | some (b, .full n h stride p) =>
        let r := fullTransaction n h stride p s
        endExpTransaction b (some r.2) r.1
      | _ => s)

/-- A header with the record's key, a sequence, a time, and the payload length counted from the frame (04 R70, R72). -/
def rebuilt (c : Contents) (seq : Half) (time : Word) (p : List Byte) : Header :=
  { key := c.key, seq := seq, time := time, len := BitVec.ofNat 8 p.length }

/-- The rebuilt header of a DELTA frame (04 R70). -/
def deltaHeader (c : Contents) (d : Nat) (r : Int) (stride : Option Half) (p : List Byte) : Header :=
  rebuilt c (c.seq + BitVec.ofNat 16 d)
    (c.time + BitVec.ofNat 32 (d * (stride.getD c.stride).toNat) + BitVec.ofInt 32 r) p

/-- Hypothesis k of a BRIEF frame (04 R72). -/
def briefHeader (c : Contents) (k : Nat) (p : List Byte) : Header :=
  rebuilt c (c.seq + BitVec.ofNat 16 k) (c.time + BitVec.ofNat 32 (k * c.stride.toNat)) p

/-- The first of `fuel` hypotheses from `k` up whose check matches (04 R72). -/
def firstHypothesis (c : Contents) (p : List Byte) (check : BitVec 7) : Nat → Nat → Option Nat
  | 0, _ => none
  | fuel + 1, k => if headerCheck (briefHeader c k p) = check then some k else firstHypothesis c p check fuel (k + 1)

/-- The contents after an accepted DELTA or BRIEF (04 R71, R73). -/
def acceptedContents (c : Contents) (h : Header) (stride : Half) : Contents :=
  { c with seq := h.seq, time := h.time, stride := stride, tally := 0, age := 0, uses := satInc c.uses }

/-- A check failure on receive context `n` (04 R74). -/
def checkFails (n : Ctx) (st : RxState) (c : Contents) (s : State) : State :=
  let s1 := raise .checkFail s
  if s1.cfg.failLimit.toNat ≤ c.tally.toNat + 1 then
    offer ⟨.refresh, n⟩ (setEvent .contextLost (writeRx n .lost { c with tally := 0 } s1))
  else writeRx n (if st = .live ∨ st = .suspect then .suspect else st) { c with tally := c.tally + 1 } s1

/-- A DELTA or BRIEF frame on a FREE, LOST or DAMAGED context (04 R76). -/
def noContext (n : Ctx) (s : State) : State := offer ⟨.refresh, n⟩ (raise .discardNoContext s)

/-- The transaction of a DELTA frame (04 R70, R71, R74, R76, R78). -/
def deltaTransaction (n : Ctx) (d : Nat) (r : Int) (stride : Option Half) (check : BitVec 7) (p : List Byte) (s0 : State) :
    State × Option RxEntry :=
  let s := readRx .expander n s0
  let r0 := s.rxRec n
  if r0.st = .live ∨ r0.st = .suspect then
    let h := deltaHeader r0.c d r stride p
    if headerCheck h = check then
      (raise .expDelta (writeRx n .live (acceptedContents r0.c h (stride.getD r0.c.stride)) s),
        some (plainEntry .delta n h p))
    else (checkFails n r0.st r0.c s, none)
  else (noContext n s, none)

/-- EXPAND_DELTA (04 R70). -/
def execExpandDelta (s : State) : Host.Outcome State Fault Refusal :=
  .next
    (match s.expTransaction with
      | some (b, .delta n d r stride check p) =>
        let t := deltaTransaction n d r stride check p s
        endExpTransaction b t.2 t.1
      | _ => s)

/-- The transaction of a BRIEF frame (04 R72 to R74, R76, R78). -/
def briefTransaction (n : Ctx) (check : BitVec 7) (p : List Byte) (s0 : State) : State × Option RxEntry :=
  let s := readRx .expander n s0
  let r0 := s.rxRec n
  if r0.st = .live ∨ r0.st = .suspect then
    match firstHypothesis r0.c p check (s.cfg.repairDepth.toNat + 1) 1 with
    | some k =>
      let h := briefHeader r0.c k p
      let s1 := raise .expBrief (writeRx n .live (acceptedContents r0.c h r0.c.stride) s)
      ((if 2 ≤ k then raise .repaired s1 else s1),
        some { plainEntry .brief n h p with repaired := BitVec.ofNat 2 (k - 1) })
    | none => (checkFails n r0.st r0.c s, none)
  else (noContext n s, none)

/-- EXPAND_BRIEF (04 R72). -/
def execExpandBrief (s : State) : Host.Outcome State Fault Refusal :=
  .next
    (match s.expTransaction with
      | some (b, .brief n check p) =>
        let t := briefTransaction n check p s
        endExpTransaction b t.2 t.1
      | _ => s)

/-- RX_ENTRY_WRITE: the entry is written whole and the frame's work ends (04 R64, 01 R15). -/
def execRxEntryWrite (s : State) : Host.Outcome State Fault Refusal :=
  .next
    (match s.exp with
      | .deliver b e => endWork (some b) (pushEntry e s)
      | _ => s)

/-- EXPANDER_ABANDONED_GRANT: nothing read, written, counted or offered (04 R65). -/
def execExpanderAbandonedGrant (s : State) : Host.Outcome State Fault Refusal :=
  .next (if s.holds .expander = true ∧ s.exp = .abandonedWaiting then endTransaction (s.setExp .idle) else s)

/-! ## Received feedback (04 R79 to R82) -/

/-- The end of an entry's transaction: the next entry's is asked for, or the frame's work ends (04 R79, R65). -/
def endEntry (b : Option (Fin 2)) (rest : List FbEntry) (s : State) : State :=
  match b, rest with
  | some k, e :: es => endAndRequest .expander (s.setExp (.busy k (.feedback e es)))
  | _, _ => endTransaction (endWork b s)

/-- An ACK entry (04 R80). -/
def ackEntry (n : Ctx) (s0 : State) : State :=
  let s := readTx .expander n s0
  if (s.txRec n).st = .opening then writeTx n .opened (s.txRec n).c s else s

/-- ACK_APPLY (04 R80). -/
def execAckApply (s : State) : Host.Outcome State Fault Refusal :=
  .next
    (match s.expTransaction with
      | some (b, .feedback ⟨.ack, n⟩ rest) => endEntry b rest (ackEntry n s)
      | _ => s)

/-- An OPEN or OPENING context becomes REFRESHING with full count 0, any other is left (04 R81, 05 R99). -/
def makeRefreshing (n : Ctx) (s : State) : State :=
  if (s.txRec n).st = .opened ∨ (s.txRec n).st = .opening then
    writeTx n .refreshing { (s.txRec n).c with tally := 0 } s
  else s

/-- A REFRESH entry (04 R81, R82). -/
def refreshEntry (n : Ctx) (s0 : State) : State :=
  let s := readTx .expander n s0
  if (s.txRec n).st.slotted then makeRefreshing n s else raise .fbStray s

/-- REFRESH_APPLY (04 R81). -/
def execRefreshApply (s : State) : Host.Outcome State Fault Refusal :=
  .next
    (match s.expTransaction with
      | some (b, .feedback ⟨.refresh, n⟩ rest) => endEntry b rest (refreshEntry n s)
      | _ => s)

end Sys2Proof.Machine
end

