-- ==== Sys2Proof/Machine/LineTransmitter.lean ====
section
/-! DEFINITION. The Line Transmitter: the choice of the next frame, frame starts, sending, clear-to-send, abandoned
frames, the transmit enable (08; 06 R112, R113). -/

namespace Sys2Proof.Machine

/-! ## What goes on TXD (08 R131, R132) -/

/-- Bytes put on TXD by one step. -/
def sendBytes (bs : List Byte) (s : State) : State := s.setPins { s.pins with txd := bs }

/-- CTS holds frame starts back and abandons frames: CTS checking is set and CTS is negated (08 R136, R138). -/
def State.ctsBlocks (s : State) : Bool := s.cfg.ctsCheck && !s.pins.cts

/-- The transmitter leaves FRAME (08 R137, R139): the transmit enable decides between IDLE and DISABLED. -/
def leaveFrame (s : State) : State :=
  s.setLtx { s.ltx with st := if s.ltx.enable then .idle else .disabled, inFlight := none, rest := [] }

/-! ## Abandoned frames (08 R137 to R139, 05 R99) -/

/-- Steps 3 and 4 of the abandonment of a frame (08 R137). -/
def countAborted (s : State) : State :=
  setEvent .txAborted (raise .txAborted (s.setLtx { s.ltx with inFlight := none, rest := [], gap := 0 }))

/-- What follows the abandonment of a frame whose take, if any, has ended: the abort request on the frame's context
number, or the end of FRAME (08 R137, 05 R99). -/
def answerAbandoned (n : Option Ctx) (s : State) : State :=
  match n with
  | some k => request .compressor (s.setComp { s.comp with work := .aborting k })
  | none => leaveFrame (s.setComp { s.comp with work := .idle })

/-- The frame in flight is abandoned; a take is not cut short (08 R137, R138). -/
def abandonFrame (s : State) : State :=
  if s.ltx.st = .frame then
    match s.comp.work with
    | .taking m f .send => s.setComp { s.comp with work := .taking m f .abandon }
    | .taking _ _ .abandon => s
    | .taking _ _ .discard => s
    | .aborting _ => s
    | .idle =>
      match s.ltx.inFlight with
      | some f => answerAbandoned f.n (countAborted s)
      | none => s
    | .sending =>
      match s.ltx.inFlight with
      | some f => answerAbandoned f.n (countAborted s)
      | none => s
  else s

/-! ## Choosing and starting a frame (08 R133 to R136, 05 R84) -/

/-- The choices of the next frame (08 R133). -/
inductive NextFrame where
  | stay
  | feedback
  | message
  deriving DecidableEq, Repr

/-- The table of the choice: an entry waits, a message waits, the alternation flag (08 R133). -/
def chooseFrame (entry message alt : Bool) : NextFrame :=
  match entry, message, alt with
  | true, false, _ => .feedback
  | true, true, false => .feedback
  | true, true, true => .message
  | false, true, _ => .message
  | false, false, _ => .stay

/-- The choice in a state (08 R133). -/
def State.frameChoice (s : State) : NextFrame :=
  chooseFrame (!s.fbq.isEmpty) (!s.host.committed.isEmpty) s.ltx.alt

/-- A feedback frame start (08 R133, R134; 06 R112). -/
def feedbackStart (s : State) : State :=
  (s.setFbq (s.fbq.drop Config.entriesPerFrame)).setLtx
    { s.ltx with
      st := .frame
      inFlight := some ⟨.feedback, none⟩
      rest := lineFrame s.cfg.txFormat (feedbackData (s.fbq.take Config.entriesPerFrame))
      alt := !s.host.committed.isEmpty }

/-- A message frame start with the oldest committed message (08 R135; 05 R84; 02 R34). -/
def messageStart (m : Message) (rest : List Message) (s : State) : State :=
  s.setHost { s.host with committed := rest }
    |> (fun s => s.setLtx { s.ltx with st := .frame, inFlight := none, rest := [], alt := false })
    |> (fun s => s.setComp
          { work := .taking m s.cfg.txFormat .send
            working := s.comp.pendingBank.getD s.comp.working
            pendingBank := none })
    |> request .compressor

/-- The transmitter enters HELD (08 R136). -/
def enterHeld (s : State) : State := s.setLtx { s.ltx with st := .held }

/-- HELD ends (08 R136). -/
def leaveHeld (s : State) : State := if s.ltx.st = .held then s.setLtx { s.ltx with st := .idle } else s

/-- A frame starts, or its start is held by CTS (08 R133, R136). -/
def startFrame (s : State) : State :=
  match s.frameChoice, s.host.committed with
  | .stay, _ => s
  | .feedback, _ => if s.ctsBlocks then enterHeld s else feedbackStart s
  | .message, m :: rest => if s.ctsBlocks then enterHeld s else messageStart m rest s
  | .message, [] => s

/-- NEXT_FRAME_CHOICE (08 R133). -/
def execNextFrameChoice (s : State) : Host.Outcome State Fault Refusal :=
  .next (if s.ltx.st = .idle ∧ s.cfg.gap ≤ s.ltx.gap then startFrame s else s)

/-! ## Byte slots and the last byte (08 R131, R132, R134, R135) -/

/-- The CTS test of a byte slot in FRAME (08 R138; log 21: DEDUCED, safe). -/
def ctsTest (s : State) : State := if s.ctsBlocks then abandonFrame s else s

/-- The byte the modem's clock takes (08 R131, R132): one bits, idle fill, or the next byte of the frame. The last byte of a
frame is sent by the rows FEEDBACK_FRAME_SENT and MESSAGE_FRAME_SENT (log 6: DESIGN CHOICE, safe). -/
def slotByte (s : State) : State :=
  match s.ltx.st with
  | .disabled => sendBytes [0xFF#8] s
  | .idle => sendBytes [s.cfg.idleFill] (s.setLtx { s.ltx with gap := satInc s.ltx.gap })
  | .held => sendBytes [s.cfg.idleFill] (s.setLtx { s.ltx with gap := satInc s.ltx.gap })
  | .frame =>
    match s.ltx.rest with
    | [] => sendBytes [s.cfg.idleFill] s
    | [_] => s
    | b :: c :: bs => sendBytes [b] (s.setLtx { s.ltx with rest := c :: bs })

/-- One byte slot of the modem's transmit clock. -/
def byteSlot (s : State) : State := slotByte (ctsTest s)

/-- IDLE_FILL_BYTE (08 R132). -/
def execIdleFillByte (s : State) : Host.Outcome State Fault Refusal := .next (byteSlot s)

/-- The counter of a frame sent whole (05 R98, 06 R113). -/
def FrameKind.sentCounter : FrameKind → Counter
  | .raw => .txRaw
  | .full => .txFull
  | .delta => .txDelta
  | .brief => .txBrief
  | .feedback => .fbSent

/-- The last CRC byte of a frame has been sent (08 R134, R135). -/
def lastByteSent (k : FrameKind) (s : State) : State :=
  sendBytes s.ltx.rest s
    |> raise k.sentCounter
    |> fun s => s.setLtx { s.ltx with st := .idle, inFlight := none, rest := [], gap := 0 }

/-- FEEDBACK_FRAME_SENT (08 R134; a CTS test that is due comes first, R138). -/
def execFeedbackFrameSent (s : State) : Host.Outcome State Fault Refusal :=
  .next
    (match s.ltx.st, s.ltx.inFlight with
      | .frame, some ⟨.feedback, none⟩ => if s.ctsBlocks then byteSlot s else lastByteSent .feedback s
      | _, _ => s)

/-- MESSAGE_FRAME_SENT (08 R135, 05 R98; a CTS test that is due comes first, R138). -/
def execMessageFrameSent (s : State) : Host.Outcome State Fault Refusal :=
  .next
    (match s.ltx.st, s.comp.work, s.ltx.inFlight with
      | .frame, .sending, some f =>
        if s.ctsBlocks then byteSlot s else lastByteSent f.kind (s.setComp { s.comp with work := .idle })
      | _, _, _ => s)

/-! ## Clear-to-send (08 R136, R138) -/

/-- The CTS pin. -/
def setCts (v : Bool) (s : State) : State := s.setPins { s.pins with cts := v }

/-- CTS_NEGATED (08 R138). -/
def execCtsNegated (s : State) : Host.Outcome State Fault Refusal :=
  .next (if s.cfg.ctsCheck then abandonFrame (setCts false s) else setCts false s)

/-- CTS_ASSERTED (08 R136). -/
def execCtsAsserted (s : State) : Host.Outcome State Fault Refusal := .next (leaveHeld (setCts true s))

/-! ## The transmit enable (08 R131, R137) -/

/-- The transmitter starts when it is enabled, DISABLED and the store is not STARTING (08 R131). -/
def startTransmitter (s : State) : State :=
  if s.ltx.enable = true ∧ s.ltx.st = .disabled ∧ s.store.st ≠ .starting then
    s.setLtx { s.ltx with st := .idle, gap := 0, alt := false }
  else s

/-- A write of the transmit enable (08 R131, R137). -/
def writeTransmitEnable (on : Bool) (s : State) : State :=
  let s1 := s.setLtx { s.ltx with enable := on }
  if on then startTransmitter s1
  else
    match s.ltx.st with
    | .disabled => s1
    | .idle => s1.setLtx { s1.ltx with st := .disabled }
    | .held => s1.setLtx { s1.ltx with st := .disabled }
    | .frame => abandonFrame s1

/-- TRANSMIT_ENABLE (08 R131). -/
def execTransmitEnable (on : Bool) (s : State) : Host.Outcome State Fault Refusal :=
  .next (hostAccess (writeTransmitEnable on) s)

end Sys2Proof.Machine
end

