-- ==== Sys2Proof/Machine/Compressor.lean ====
section
/-! DEFINITION. The Compressor: the take, the choice of the frame kind, opening, eviction and RAW, the frame it builds, the
abort request (05; 01 R5, R12; 02 R23 to R25). -/

namespace Sys2Proof.Machine

/-! ## The frame kind (05 R89, R90) -/

/-- The frame chosen for a message of an OPEN context, with the bits of its coded area; a DELTA carries a stride or not. -/
inductive FrameChoice where
  | full
  | delta (stride : Option Half) (bits : List Bool)
  | brief (bits : List Bool)
  deriving DecidableEq, Repr

/-- Values encoded one after another, or none when one is not encodable (02 R24, R25). -/
def encodeAll : List (CodeTable × Nat) → Option (List Bool)
  | [] => some []
  | (t, v) :: rest =>
    match t.encode v, encodeAll rest with
    | some a, some b => some (a ++ b)
    | _, _ => none

/-- The sequence delta d, 0..65535 (05 R90). -/
def seqDelta (c : Contents) (h : Header) : Nat := (h.seq - c.seq).toNat

/-- The time step, 0..4294967295 (05 R90). -/
def timeStep (c : Contents) (h : Header) : Nat := (h.time - c.time).toNat

/-- The residual, signed (05 R90). -/
def timeResidual (c : Contents) (h : Header) : Int :=
  (h.time - (c.time + BitVec.ofNat 32 (seqDelta c h * c.stride.toNat))).toInt

/-- Candidate 1 (05 R89). -/
def briefCandidate (k : Bank) (n : Ctx) (c : Contents) (h : Header) : Option FrameChoice :=
  if seqDelta c h = 1 ∧ timeStep c h = c.stride.toNat then
    (encodeAll [(k.c.table, n.toNat)]).map .brief
  else none

/-- Candidate 2 (05 R89). -/
def deltaStrideCandidate (k : Bank) (n : Ctx) (c : Contents) (h : Header) : Option FrameChoice :=
  if seqDelta c h = 1 ∧ timeStep c h ≤ 65535 ∧ timeStep c h ≠ c.stride.toNat then
    (encodeAll [(k.c.table, n.toNat), (k.s.table, 1), (k.t.table, 0), (k.s.table, timeStep c h)]).map
      (.delta (some (BitVec.ofNat 16 (timeStep c h))))
  else none

/-- Candidate 3 (05 R89). -/
def deltaCandidate (k : Bank) (n : Ctx) (c : Contents) (h : Header) : Option FrameChoice :=
  if 1 ≤ seqDelta c h ∧ seqDelta c h ≤ 32767 ∧ -32768 ≤ timeResidual c h ∧ timeResidual c h ≤ 32767 then
    (encodeAll [(k.c.table, n.toNat), (k.s.table, seqDelta c h), (k.t.table, zigzag (timeResidual c h))]).map (.delta none)
  else none

/-- The first candidate that applies, FULL when none does (05 R89). -/
def chooseKind (k : Bank) (n : Ctx) (c : Contents) (h : Header) : FrameChoice :=
  ((briefCandidate k n c h).or ((deltaStrideCandidate k n c h).or (deltaCandidate k n c h))).getD .full

/-! ## The frame built (05 R97) -/

/-- A frame's kind, its context number, and its kind byte with its body. -/
structure Built where
  kind : FrameKind
  n    : Option Ctx
  data : List Byte
  deriving DecidableEq, Repr

/-- The kind byte of a DELTA or BRIEF frame (01 R5, 05 R97). -/
def codedKindByte (kind : FrameKind) (bank : BankId) (withStride : Bool) : Byte :=
  kind.code.setWidth 8 ||| (BitVec.ofBool bank.bit).setWidth 8 <<< 3 ||| (BitVec.ofBool withStride).setWidth 8 <<< 4

/-- A RAW frame of a message. -/
def builtRaw (m : Message) : Built := ⟨.raw, none, 0x00#8 :: m⟩

/-- A FULL frame of a message. -/
def builtFull (n : Ctx) (stride : Half) (m : Message) : Built :=
  ⟨.full, some n, 0x01#8 :: n :: (m.take 14 ++ bytes16 stride ++ m.drop 14)⟩

/-- A DELTA or BRIEF frame of a message: coded area, check byte, payload. -/
def builtCoded (kind : FrameKind) (bank : BankId) (withStride : Bool) (n : Ctx) (bits : List Bool) (m : Message) : Built :=
  ⟨kind, some n, codedKindByte kind bank withStride ::
    (packBits bits ++ (headerCheck (Header.ofBytes m)).setWidth 8 :: m.drop 14)⟩

/-! ## Sending from a context (05 R89, R91, R92) -/

/-- The contents after a frame taken from a context, but for the full count (05 R91). -/
def sentContents (c : Contents) (h : Header) (stride : Half) : Contents :=
  { c with seq := h.seq, time := h.time, stride := stride, age := 0, uses := satInc c.uses }

/-- The state after a FULL frame, its full count already raised (05 R92). -/
def stateAfterFull (optimistic : BitVec 3) (st : TxState) (count : BitVec 3) : TxState :=
  match st with
  | .opening => if optimistic ≠ 0 ∧ optimistic ≤ count then .opened else .opening
  | .refreshing => if optimistic ≠ 0 ∧ optimistic ≤ count then .opened else .opening
  | _ => st

/-- A FULL frame sent from context `n` (05 R91, R92). -/
def sendFull (n : Ctx) (st : TxState) (c : Contents) (m : Message) (s : State) : State × Built :=
  let c1 := { sentContents c (Header.ofBytes m) c.stride with tally := satInc c.tally }
  (writeTx n (stateAfterFull s.cfg.optimistic st c1.tally) c1 s, builtFull n c.stride m)

/-- A message sent from its context (05 R89, R91). -/
def sendFrom (n : Ctx) (m : Message) (s : State) : State × Built :=
  let r := s.txRec n
  let h := Header.ofBytes m
  match (if r.st = .opened then chooseKind (s.banks.get s.comp.working) n r.c h else .full) with
  | .full => sendFull n r.st r.c m s
  | .delta stride bits =>
    (writeTx n r.st (sentContents r.c h (stride.getD r.c.stride)) s,
      builtCoded .delta s.comp.working stride.isSome n bits m)
  | .brief bits =>
    (writeTx n r.st (sentContents r.c h r.c.stride) s, builtCoded .brief s.comp.working false n bits m)

/-! ## No match: opening, eviction, RAW (05 R88, R93 to R96) -/

/-- The contents a context takes with a new flow (05 R88, R95). -/
def freshContents (h : Header) : Contents :=
  { key := h.key, seq := h.seq, time := h.time, stride := 0, tally := 0, age := 0, pinned := false, uses := 0 }

/-- The number and slot an opening takes, when it is possible (05 R88). -/
def State.opening (s : State) (b : BitVec 6) : Option (Ctx × Fin 4) :=
  match s.lowestFree, s.emptySlot b with
  | some n, some i => some (n, i)
  | _, _ => none

/-- A context opened for the message, which goes FULL (05 R88). -/
def openContext (n : Ctx) (i : Fin 4) (m : Message) (s : State) : State × Built :=
  let h := Header.ofBytes m
  sendFull n .opening (freshContents h) m (fillSlot n h.key.bucket i h.key.signature s)

/-- The candidate reads: the records of the filled slots that the search did not read (05 R94). -/
def readCandidates (k : Key) : List (Fin 4) → State → State
  | [], s => s
  | i :: is, s =>
    match s.slotAt k.bucket i with
    | none => readCandidates k is s
    | some sl => readCandidates k is (if sl.sig = k.signature then s else readTx .compressor sl.n s)

/-- The better of a victim found so far and slot `i` of bucket `b` (05 R94). -/
def State.betterVictim (s : State) (b : BitVec 6) (best : Option (Fin 4 × Ctx)) (i : Fin 4) : Option (Fin 4 × Ctx) :=
  match s.slotAt b i with
  | none => best
  | some sl =>
    if (s.txRec sl.n).c.pinned then best
    else
      match best with
      | none => some (i, sl.n)
      | some v => if (s.txRec v.2).c.age < (s.txRec sl.n).c.age then some (i, sl.n) else best

/-- The victim: the unpinned context of greatest age, in the lowest-numbered slot (05 R94). -/
def State.victim (s : State) (b : BitVec 6) : Option (Fin 4 × Ctx) := [0, 1, 2, 3].foldl (s.betterVictim b) none

/-- An eviction: the victim's number and slot serve the message's flow (05 R95). -/
def evict (i : Fin 4) (v : Ctx) (m : Message) (s : State) : State × Built :=
  let h := Header.ofBytes m
  sendFull v .opening (freshContents h) m
    (raise .txEvict (setSlot h.key.bucket i (some ⟨v, h.key.signature⟩) s))

/-- The message goes RAW (05 R93, R96). -/
def sendRaw (m : Message) (s : State) : State × Built := (raise .txRawTablefull s, builtRaw m)

/-- The decision after the candidate reads (05 R94). -/
def afterCandidates (m : Message) (s : State) : State × Built :=
  let b := (Header.ofBytes m).key.bucket
  if s.store.st = .degraded then sendRaw m s
  else
    match s.opening b with
    | some p => openContext p.1 p.2 m s
    | none =>
      match s.victim b with
      | some v => evict v.1 v.2 m s
      | none => sendRaw m s

/-- The decision when the search has found no match (05 R93). -/
def noMatch (m : Message) (s : State) : State × Built :=
  let k := (Header.ofBytes m).key
  if s.store.st = .degraded then sendRaw m s
  else
    match s.opening k.bucket with
    | some p => openContext p.1 p.2 m s
    | none => afterCandidates m (readCandidates k [0, 1, 2, 3] s)

/-! ## The take (05 R85) -/

/-- The take's search and decision: the state after its writes and the frame (05 R85). -/
def takeMessage (m : Message) (s : State) : State × Built :=
  match search .compressor (Header.ofBytes m).key s with
  | (s1, some n) => sendFrom n m s1
  | (s1, none) => noMatch m s1

/-- The take has ended: its frame is handed to the transmitter, or abandoned with no byte sent (08 R135, R137). -/
def endTake (fmt : TxFormat) (fate : TakeFate) (f : Built) (s : State) : State :=
  match fate with
  | .send =>
    endTransaction s
      |> (fun s => s.setComp { s.comp with work := .sending })
      |> fun s => s.setLtx { s.ltx with inFlight := some ⟨f.kind, f.n⟩, rest := lineFrame fmt f.data }
  | _ => answerAbandoned f.n (countAborted (endTransaction s))

/-- The take at its grant. -/
def takeGranted (m : Message) (fmt : TxFormat) (fate : TakeFate) (s : State) : State :=
  let r := takeMessage m s
  endTake fmt fate r.2 r.1

/-- TAKE (05 R85). -/
def execTake (s : State) : Host.Outcome State Fault Refusal :=
  .next
    (match s.comp.work with
      | .taking m fmt fate =>
        if s.holds .compressor = true ∧ fate ≠ .discard then takeGranted m fmt fate s else s
      | _ => s)

/-- TAKE_ABANDONED_GRANT: nothing read or written, the message discarded, TX_ABORTED counted (05 R100, 08 R137). -/
def execTakeAbandonedGrant (s : State) : Host.Outcome State Fault Refusal :=
  .next
    (match s.comp.work with
      | .taking _ _ .discard =>
        if s.holds .compressor then answerAbandoned none (countAborted (endTransaction s)) else s
      | _ => s)

/-- The abort request at its grant (05 R99). -/
def abortGranted (n : Ctx) (s : State) : State :=
  endTransaction (answerAbandoned none (makeRefreshing n (readTx .compressor n s)))

/-- ABORT_REQUEST (05 R99). -/
def execAbortRequest (s : State) : Host.Outcome State Fault Refusal :=
  .next
    (match s.comp.work with
      | .aborting n => if s.holds .compressor then abortGranted n s else s
      | _ => s)

end Sys2Proof.Machine
end

