-- ==== Sys2Proof/Machine/Resets.lean ====
section
/-! DEFINITION. Link reset, device reset, the RESET input, storage errors, the end of the start-up walk (03, 10.7). -/

namespace Sys2Proof.Machine

/-! ## Link reset (10 R166) -/

/-- A link reset at the Host Port: both FIFOs, the construction and the lost mark; the reason code is kept (10 R166). -/
def linkResetHost (s : State) : State :=
  s.setHost { s.host with rx := [], readPos := 0, lostMark := false, committed := [], build := [], overrun := false }

/-- A link reset at the Line Receiver (07 R125, R121). -/
def linkResetReceiver (s : State) : State :=
  s.setLrx
      { s.lrx with
        st := if s.lrx.st = .disabled then .disabled else .hunt []
        bufs := #v[.empty, .empty], order := []
        badRun := 0, goodRun := 0, silence := 0 }
    |> setLof false
    |> setSilent false

/-- What a link reset makes of the Expander's frame in work; `running`: its transaction is in progress, which then runs to
its end (04 R65, 03 R47). -/
def ExpState.linkReset (running : Bool) : ExpState → ExpState
  | .idle => .idle
  | .busy _ w => if running then .abandonedRunning w else .abandonedWaiting
  | .deliver _ _ => .idle
  | .abandonedWaiting => .abandonedWaiting
  | .abandonedRunning w => .abandonedRunning w

/-- A link reset at the Expander (04 R65); a granted transaction is in progress (log 4: DEDUCED, safe). -/
def linkResetExpander (s : State) : State := s.setExp (s.exp.linkReset (s.holds .expander))

/-- What a link reset makes of a take; `running`: it is in progress, and then runs to its end (05 R100, 03 R47). -/
def TakeFate.linkReset (running : Bool) : TakeFate → TakeFate
  | .send => if running then .abandon else .discard
  | .abandon => if running then .abandon else .discard
  | .discard => .discard

/-- A link reset at the Line Transmitter and the Compressor (08 R139, 05 R100); a granted take is in progress (log 4:
DEDUCED, safe). -/
def linkResetTransmitter (s : State) : State :=
  leaveHeld
    (match s.comp.work with
      | .taking m f fate => s.setComp { s.comp with work := .taking m f (fate.linkReset (s.holds .compressor)) }
      | _ => abandonFrame s)
    |> fun s => s.setLtx { s.ltx with alt := false }

/-- A link reset (10 R166). -/
def linkReset (s : State) : State :=
  linkResetTransmitter (linkResetExpander (linkResetReceiver (linkResetHost (s.setFbq []))))

/-! ## Device reset and the start-up walk (10 R167, 03 R57) -/

/-- A device reset; the pins are outside it (10 R167). -/
def deviceReset (s : State) : State := { State.reset with pending := s.pending, pins := s.pins }

/-- STARTUP_WALK_END: the store becomes READY, the line sides run, the arbiter grants (03 R57, R46; 07 R117; 08 R131). -/
def execStartupWalkEnd (s : State) : Host.Outcome State Fault Refusal :=
  .next
    (if s.store.st = .starting then
      arbitrate (startTransmitter (startReceiver (s.setStore { s.store with st := .ready })))
    else s)

/-- RESET_ASSERT: host accesses are shut off (10 R153). -/
def execResetAssert (s : State) : Host.Outcome State Fault Refusal := .next (s.setPins { s.pins with resetPin := true })

/-- RESET_RELEASE: a device reset (10 R167). -/
def execResetRelease (s : State) : Host.Outcome State Fault Refusal :=
  .next (deviceReset (s.setPins { s.pins with resetPin := false }))

/-! ## Storage errors (03 R48) -/

/-- The changed bits of a record after bit `b` changes: a second change of a bit restores it (log 8: DEDUCED, safe). -/
def toggleBit (b : Nat) : List Nat → List Nat
  | [] => [b]
  | x :: xs => if b = x then xs else if b < x then b :: x :: xs else x :: toggleBit b xs

/-- The changed bits after several bits change. -/
def toggleBits (bits flips : List Nat) : List Nat := bits.foldl (fun f b => toggleBit b f) flips

/-- Stored bits of a receive record change. -/
def damageRx (n : Ctx) (bits : List Nat) (s : State) : State :=
  s.setStore { s.store with rx := Table.put s.store.rx n { s.rxRec n with flips := toggleBits bits (s.rxRec n).flips } }

/-- Stored bits of a transmit record change. -/
def damageTx (n : Ctx) (bits : List Nat) (s : State) : State :=
  s.setStore { s.store with tx := Table.put s.store.tx n { s.txRec n with flips := toggleBits bits (s.txRec n).flips } }

/-- STORAGE_ERROR (03 R48). -/
def execStorageError (dir : Dir) (n : Ctx) (bits : List Nat) (s : State) : Host.Outcome State Fault Refusal :=
  .next
    (match dir with
      | .receive => damageRx n bits s
      | .transmit => damageTx n bits s)

end Sys2Proof.Machine
end

