-- ==== Sys2Proof/Machine/Commands.lean ====
section
/-! DEFINITION. The Command Unit: a write of the command word, the eighteen commands, the transactions of accepted commands,
the RETIRE_ALL walk, writes of the record window (10.3, 10.4; 02 R31 to R33; 03 R60; 09 R152). -/

namespace Sys2Proof.Machine

/-! ## Completion and refusal (10 R159) -/

/-- A command completes: its result, COMMAND_DONE, the unit IDLE. -/
def complete (r : Result) (s : State) : State := setEvent .commandDone (s.setCu { s.cu with st := .idle, result := r })

/-- A command or a window write is refused with BUSY. -/
def refuseBusy (s : State) : State := setEvent .commandRefused (s.setCu { s.cu with refusal := .busy })

/-- A command is accepted: the refusal field is set to OK (log 23: DEDUCED, safe). -/
def acceptCommand (s : State) : State := s.setCu { s.cu with refusal := .ok }

/-- A command that needs one store transaction: BUSY with its argument captured. -/
def startTransaction (c : StoreCmd) (s : State) : State :=
  request .command (s.setCu { s.cu with st := .busy c s.cu.argN s.cu.argDir })

/-- A RETIRE_ALL walk starts at index 0 (10 R162). -/
def startWalk (d : Dir) (s : State) : State := request .command (s.setCu { s.cu with st := .walk d 0 })

/-! ## Bank commands (02 R27, R31 to R33) -/

/-- A bank made LOADING with its three pointers 0 (02 R31). -/
def Bank.opened (k : Bank) : Bank :=
  { st := .loading, c := { k.c with ptr := 0 }, s := { k.s with ptr := 0 }, t := { k.t with ptr := 0 } }

/-- OPEN_BANK on a bank (02 R31). -/
def openBank (k : BankId) (s : State) : State :=
  if s.comp.working = k ∨ s.comp.pendingBank = some k then complete .bankInUse s
  else complete .ok (s.setBanks (s.banks.put k (s.banks.get k).opened))

/-- CLOSE_BANK on a bank (02 R32). -/
def closeBank (k : BankId) (s : State) : State :=
  match (s.banks.get k).st with
  | .loading => complete .ok (s.setBanks (s.banks.put k { s.banks.get k with st := .valid }))
  | .valid => complete .ok s
  | .invalid => complete .bankInvalid s

/-- SELECT_TX_BANK on a bank (02 R33). -/
def selectBank (k : BankId) (s : State) : State :=
  if (s.banks.get k).st = .valid then complete .ok (s.setComp { s.comp with pendingBank := some k })
  else complete .bankInvalid s

/-- A bank command's argument: 0 names A, 1 names B, any other value is refused (02 R27). -/
def onBank (f : BankId → State → State) (s : State) : State :=
  match s.cu.argBank with
  | some k => f k s
  | none => complete .badArgument s

/-! ## A write of the command word (10 R159) -/

/-- SNAPSHOT: a boundary at once, the boundary counter 0 (09 R152). -/
def snapshotNow (s : State) : State := boundaryNow (s.setStats { s.stats with boundary := 0 })

/-- An accepted command. -/
def runCommand (c : Command) (s : State) : State :=
  match c with
  | .readRx => startTransaction .readRx s
  | .readTx => startTransaction .readTx s
  | .loadRx => if (windowRx s.cu.window).isSome then startTransaction .loadRx s else complete .badRecord s
  | .loadTx => if (windowTx s.cu.window).isSome then startTransaction .loadTx s else complete .badRecord s
  | .retireRx => startTransaction .retireRx s
  | .retireTx => startTransaction .retireTx s
  | .pin => startTransaction .pin s
  | .unpin => startTransaction .unpin s
  | .retireAllRx => startWalk .receive s
  | .retireAllTx => startWalk .transmit s
  | .findTx => startTransaction .findTx s
  | .openBank => onBank openBank s
  | .closeBank => onBank closeBank s
  | .selectTxBank => onBank selectBank s
  | .clearDegraded => startTransaction .clearDegraded s
  | .snapshot => complete .ok (snapshotNow s)
  | .linkReset => complete .ok (linkReset s)
  | .deviceReset => deviceReset s
  | .unknown => complete .badArgument s

/-- A write of the command word (10 R159). -/
def commandWrite (c : Command) (s : State) : State :=
  if c = .deviceReset then deviceReset s
  else if s.cu.st.busyBit then refuseBusy s
  else if s.store.st = .starting then complete .notReady s
  else if c = .unknown then complete .badArgument s
  else runCommand c (acceptCommand s)

/-- READ_RX (10 R160). -/
def execReadRx (s : State) : Host.Outcome State Fault Refusal := .next (hostAccess (commandWrite .readRx) s)
/-- READ_TX (10 R160). -/
def execReadTx (s : State) : Host.Outcome State Fault Refusal := .next (hostAccess (commandWrite .readTx) s)
/-- LOAD_RX (10 R160). -/
def execLoadRx (s : State) : Host.Outcome State Fault Refusal := .next (hostAccess (commandWrite .loadRx) s)
/-- LOAD_TX (10 R161). -/
def execLoadTx (s : State) : Host.Outcome State Fault Refusal := .next (hostAccess (commandWrite .loadTx) s)
/-- RETIRE_RX (10 R160). -/
def execRetireRx (s : State) : Host.Outcome State Fault Refusal := .next (hostAccess (commandWrite .retireRx) s)
/-- RETIRE_TX (10 R160). -/
def execRetireTx (s : State) : Host.Outcome State Fault Refusal := .next (hostAccess (commandWrite .retireTx) s)
/-- PIN (10 R160). -/
def execPin (s : State) : Host.Outcome State Fault Refusal := .next (hostAccess (commandWrite .pin) s)
/-- UNPIN (10 R160). -/
def execUnpin (s : State) : Host.Outcome State Fault Refusal := .next (hostAccess (commandWrite .unpin) s)
/-- RETIRE_ALL_RX (10 R162). -/
def execRetireAllRx (s : State) : Host.Outcome State Fault Refusal := .next (hostAccess (commandWrite .retireAllRx) s)
/-- RETIRE_ALL_TX (10 R162). -/
def execRetireAllTx (s : State) : Host.Outcome State Fault Refusal := .next (hostAccess (commandWrite .retireAllTx) s)
/-- FIND_TX (10 R161). -/
def execFindTx (s : State) : Host.Outcome State Fault Refusal := .next (hostAccess (commandWrite .findTx) s)
/-- OPEN_BANK (02 R31). -/
def execOpenBank (s : State) : Host.Outcome State Fault Refusal := .next (hostAccess (commandWrite .openBank) s)
/-- CLOSE_BANK (02 R32). -/
def execCloseBank (s : State) : Host.Outcome State Fault Refusal := .next (hostAccess (commandWrite .closeBank) s)
/-- SELECT_TX_BANK (02 R33). -/
def execSelectTxBank (s : State) : Host.Outcome State Fault Refusal := .next (hostAccess (commandWrite .selectTxBank) s)
/-- CLEAR_DEGRADED (03 R60). -/
def execClearDegraded (s : State) : Host.Outcome State Fault Refusal := .next (hostAccess (commandWrite .clearDegraded) s)
/-- SNAPSHOT (09 R152). -/
def execSnapshot (s : State) : Host.Outcome State Fault Refusal := .next (hostAccess (commandWrite .snapshot) s)
/-- LINK_RESET (10 R166); its argument carries nothing. -/
def execLinkReset (_ : Unit) (s : State) : Host.Outcome State Fault Refusal :=
  .next (hostAccess (commandWrite .linkReset) s)
/-- DEVICE_RESET (10 R167). -/
def execDeviceReset (s : State) : Host.Outcome State Fault Refusal := .next (hostAccess (commandWrite .deviceReset) s)
/-- UNKNOWN_COMMAND: a code that names a command acts as that command (10 R159). -/
def execUnknownCommand (code : Word) (s : State) : Host.Outcome State Fault Refusal :=
  .next (hostAccess (commandWrite (commandOfCode code)) s)

/-! ## The transactions of accepted commands (10 R160, R161; 03 R60) -/

/-- The record window takes eight words. -/
def setWindow (w : Vector Word 8) (s : State) : State := s.setCu { s.cu with window := w }

/-- READ_RX's transaction (10 R160, 01 R17). -/
def readRxWork (n : Ctx) (s0 : State) : State :=
  let s := readRx .command n s0
  complete .ok (setWindow (recordWords n (s.rxRec n).st.code (s.rxRec n).c none) s)

/-- The slot word 7 of a READ_TX shows (01 R17, 03 R41). -/
def State.shownSlot (s : State) (n : Ctx) : Option (Fin 4) :=
  if (s.txRec n).st.slotted then (s.refOf n).map SlotRef.slot else none

/-- READ_TX's transaction (10 R160, 01 R17). -/
def readTxWork (n : Ctx) (s0 : State) : State :=
  let s := readTx .command n s0
  complete .ok (setWindow (recordWords n (s.txRec n).st.code (s.txRec n).c (s.shownSlot n)) s)

/-- LOAD_RX's transaction (10 R160). -/
def loadRxWork (n : Ctx) (s : State) : State :=
  match windowRx s.cu.window with
  | none => complete .badRecord s
  | some (.free, _) => complete .ok (freeRxRecord n s)
  | some (st, c) => complete .ok (writeRx n st c s)

/-- LOAD_TX's transaction (10 R161). -/
def loadTxWork (n : Ctx) (s : State) : State :=
  match windowTx s.cu.window with
  | none => complete .badRecord s
  | some (st, c) =>
    if (s.txRec n).st.slotted then complete .notFree s
    else
      match search .command c.key s with
      | (s1, some _) => complete .duplicateKey s1
      | (s1, none) =>
        match s1.emptySlot c.key.bucket with
        | none => complete .bucketFull s1
        | some i => complete .ok (writeTx n st c (fillSlot n c.key.bucket i c.key.signature s1))

/-- PIN's and UNPIN's transaction (10 R160). -/
def pinWork (v : Bool) (dir : Dir) (n : Ctx) (s0 : State) : State :=
  match dir with
  | .receive =>
    let s := readRx .command n s0
    if (s.rxRec n).st.keyed then complete .ok (writeRx n (s.rxRec n).st { (s.rxRec n).c with pinned := v } s)
    else complete .badArgument s
  | .transmit =>
    let s := readTx .command n s0
    if (s.txRec n).st.slotted then complete .ok (writeTx n (s.txRec n).st { (s.txRec n).c with pinned := v } s)
    else complete .badArgument s

/-- The FIND_TX number of the result register. -/
def setFound (n : Byte) (s : State) : State := s.setCu { s.cu with found := n }

/-- FIND_TX's transaction (10 R161). -/
def findTxWork (s : State) : State :=
  match search .command (windowKey s.cu.window) s with
  | (s1, some n) => complete .ok (setFound n s1)
  | (s1, none) => complete .notFound (setFound 0 s1)

/-- CLEAR_DEGRADED's transaction; the capture was tested at its grant (03 R60). -/
def clearDegradedWork (s : State) : State :=
  if s.arb.tested then complete .capturePending s
  else if s.store.st = .degraded then complete .ok (setDegraded false (s.setStore { s.store with st := .ready }))
  else complete .ok s

/-- The work of a command's transaction, with its completion (10 R159 to R161). -/
def commandWork (c : StoreCmd) (n : Ctx) (dir : Dir) (s : State) : State :=
  match c with
  | .readRx => readRxWork n s
  | .readTx => readTxWork n s
  | .loadRx => loadRxWork n s
  | .loadTx => loadTxWork n s
  | .retireRx => complete .ok (freeRxRecord n s)
  | .retireTx => complete .ok (freeTxRecord n s)
  | .pin => pinWork true dir n s
  | .unpin => pinWork false dir n s
  | .findTx => findTxWork s
  | .clearDegraded => clearDegradedWork s

/-- COMMAND_TRANSACTION (03 R44, 10 R159 to R161). -/
def execCommandTransaction (s : State) : Host.Outcome State Fault Refusal :=
  .next
    (match s.cu.st with
      | .busy c n dir => if s.holds .command then endTransaction (commandWork c n dir s) else s
      | _ => s)

/-- A record retired (10 R160, R162). -/
def retire (dir : Dir) (n : Ctx) (s : State) : State :=
  match dir with
  | .receive => freeRxRecord n s
  | .transmit => freeTxRecord n s

/-- The end of a walk's transaction on record `i` (10 R162). -/
def endWalkStep (dir : Dir) (i : Byte) (s : State) : State :=
  if i = BitVec.allOnes 8 then endTransaction (complete .ok s)
  else endAndRequest .command (s.setCu { s.cu with st := .walk dir (i + 1) })

/-- WALK_STEP (10 R162). -/
def execWalkStep (s : State) : Host.Outcome State Fault Refusal :=
  .next
    (match s.cu.st with
      | .walk dir i => if s.holds .command then endWalkStep dir i (retire dir i s) else s
      | _ => s)

/-! ## Writes of the record window (10 R159) -/

/-- A write of a window word. -/
def writeWindow (i : Fin 8) (w : Word) (s : State) : State :=
  if s.cu.st.busyBit then refuseBusy s else setWindow (s.cu.window.set i w) s

/-- RECORD_WINDOW_WRITE (10 R159). -/
def execRecordWindowWrite (i : Fin 8) (w : Word) (s : State) : Host.Outcome State Fault Refusal :=
  .next (hostAccess (writeWindow i w) s)

end Sys2Proof.Machine
end

