-- ==== Sys2Proof/Machine/Time.lean ====
section
/-! DEFINITION. The Interval Timer, what a period does, the Age Sweep, the statistics boundary (09; 07 R128). -/

namespace Sys2Proof.Machine

/-! ## A period (09 R142) -/

/-- A period reaches the Age Sweep (09 R143). -/
def sweepPeriod (s : State) : State :=
  match s.sweep.idx with
  | none => request .sweep (s.setSweep { s.sweep with idx := some 0 })
  | some _ =>
    if s.sweep.pend < 3 then s.setSweep { s.sweep with pend := s.sweep.pend + 1 }
    else setEvent .sweepOverrun (raise .sweepOverrun s)

/-- The raised boundary counter reaches S, so that a period makes a boundary (09 R151). -/
def State.boundaryReached (s : State) : Bool :=
  decide (s.cfg.statLimit ≠ 0) && decide (s.cfg.statLimit.toNat ≤ s.stats.boundary.toNat + 1)

/-- A period reaches the boundary counter (09 R151); with S at 0 the counter is 0 (log 16: DEDUCED, safe). -/
def boundaryPeriod (s : State) : State :=
  if s.boundaryReached then boundaryNow (s.setStats { s.stats with boundary := 0 })
  else s.setStats { s.stats with boundary := if s.cfg.statLimit = 0 then 0 else s.stats.boundary + 1 }

/-- The raised silence counter sets LINE_SILENT at a period (07 R128). -/
def State.silenceReached (s : State) : Bool :=
  decide (s.lrx.st ≠ .disabled) && decide (s.cfg.tSilent ≠ 0) && !s.stat.silent.live &&
    decide (s.cfg.tSilent ≤ satInc s.lrx.silence)

/-- A period reaches the silence counter (07 R128). -/
def silencePeriod (s : State) : State :=
  let s1 := if s.lrx.st = .disabled then s else s.setLrx { s.lrx with silence := satInc s.lrx.silence }
  if s.silenceReached then setSilent true s1 else s1

/-- One period, whole. A period that both overruns the sweep and reaches S counts the overrun into the interval that ends;
the other order R152 allows is the row STATISTICS_BOUNDARY (log 7: DESIGN CHOICE, safe). -/
def period (s : State) : State := silencePeriod (boundaryPeriod (sweepPeriod s))

/-- The count takes the reload value (09 R140, R141). -/
def reloadTimer (s : State) : State := s.setTimer { s.timer with count := s.timer.reload }

/-- The count rises by one; from 0xFFFFFFFF it overflows into the reload value and a period (09 R140, R141). -/
def advance (s : State) : State :=
  if s.timer.count = BitVec.allOnes 32 then period (reloadTimer s)
  else s.setTimer { s.timer with count := s.timer.count + 1 }

/-- A tick of TREF overflows: the timer runs and its count is 0xFFFFFFFF (09 R140). -/
def State.overflows (s : State) : Bool := s.timer.run && decide (s.timer.count = BitVec.allOnes 32)

/-- TIMER_OVERFLOW: the tick that finds the running count at 0xFFFFFFFF (09 R140). -/
def execTimerOverflow (s : State) : Host.Outcome State Fault Refusal := .next (if s.overflows then advance s else s)

/-- LINE_SILENT: the overflowing tick whose period sets the alarm (07 R128; log 7: DESIGN CHOICE, safe). -/
def execLineSilent (s : State) : Host.Outcome State Fault Refusal :=
  .next (if s.overflows && s.silenceReached then advance s else s)

/-- STATISTICS_BOUNDARY: the overflowing tick whose period makes a boundary, taken before the sweep's overrun is counted
(09 R151, R152; log 7: DESIGN CHOICE, safe). -/
def execStatisticsBoundary (s : State) : Host.Outcome State Fault Refusal :=
  .next (if s.overflows && s.boundaryReached then silencePeriod (sweepPeriod (boundaryPeriod (reloadTimer s))) else s)

/-- TREF_TICK (09 R140). -/
def execTrefTick (s : State) : Host.Outcome State Fault Refusal := .next (if s.timer.run then advance s else s)

/-- TIMER_TRANSFER: the count takes the reload value (09 R141). -/
def execTimerTransfer (s : State) : Host.Outcome State Fault Refusal := .next (hostAccess reloadTimer s)

/-- The single increment action (09 R141). -/
def singleIncrement (s : State) : State := if s.timer.run then s else advance s

/-- SINGLE_INCREMENT (09 R141). -/
def execSingleIncrement (s : State) : Host.Outcome State Fault Refusal := .next (hostAccess singleIncrement s)

/-- A write of the run flag (09 R141). -/
def writeRun (on : Bool) (s : State) : State := s.setTimer { s.timer with run := on }

/-- TIMER_RUN (09 R141). -/
def execTimerRun (on : Bool) (s : State) : Host.Outcome State Fault Refusal := .next (hostAccess (writeRun on) s)

/-! ## One visit of the Age Sweep (09 R143 to R149) -/

/-- The retirement test with the raised age (09 R146). -/
def retires (limit : Byte) (c : Contents) : Bool := !c.pinned && decide (limit ≠ 0) && decide (limit ≤ c.age)

/-- The contents with the raised age (09 R146). -/
def aged (c : Contents) : Contents := { c with age := satInc c.age }

/-- A visit to receive record `n` (09 R145 to R148). -/
def visitRx (n : Ctx) (s0 : State) : State :=
  let s := readRx .sweep n s0
  let r := s.rxRec n
  if r.st.keyed then
    if retires s.cfg.rxIdle (aged r.c) then raise .ctxAged (freeRxRecord n s)
    else
      let s1 := writeRx n r.st (aged r.c) s
      if r.st = .lost then offer ⟨.refresh, n⟩ s1 else s1
  else s

/-- A visit to transmit record `n` (09 R145 to R147). -/
def visitTx (n : Ctx) (s0 : State) : State :=
  let s := readTx .sweep n s0
  let r := s.txRec n
  if r.st.slotted then
    if retires s.cfg.txIdle (aged r.c) then raise .ctxAged (freeTxRecord n s) else writeTx n r.st (aged r.c) s
  else s

/-- The visit to index `i` (09 R143). -/
def visit (i : BitVec 9) (s : State) : State :=
  if i.msb then visitTx (i.setWidth 8) s else visitRx (i.setWidth 8) s

/-- The end of the visit to index `i`: the next visit is asked for, or the pass is complete (09 R143, R144). -/
def endVisit (i : BitVec 9) (s : State) : State :=
  if i = BitVec.allOnes 9 then
    if s.sweep.pend = 0 then endTransaction (s.setSweep { s.sweep with idx := none })
    else endAndRequest .sweep (s.setSweep { idx := some 0, pend := s.sweep.pend - 1 })
  else endAndRequest .sweep (s.setSweep { s.sweep with idx := some (i + 1) })

/-- SWEEP_VISIT (09 R146). -/
def execSweepVisit (s : State) : Host.Outcome State Fault Refusal :=
  .next
    (match s.sweep.idx with
      | some i => if s.holds .sweep then endVisit i (visit i s) else s
      | none => s)

end Sys2Proof.Machine
end

