-- ==== Sys2Proof/Machine/HostPort.lean ====
section
/-! DEFINITION. The register accesses of the host: FIFO ports, code tables, error capture, events, alarms, monitor, and every
other word of the window (10; 02 R28 to R30; 03 R54). -/

namespace Sys2Proof.Machine

/-! ## Reads with an effect -/

/-- A host read puts a word on the data bus; while RESET is asserted it reads 0 and does nothing else (10 R153). -/
def hostRead (value : State → Word) (effect : State → State) (s : State) : State :=
  if s.pins.resetPin then s.setPins { s.pins with dataOut := 0 }
  else effect (s.setPins { s.pins with dataOut := value s })

/-! ## The receive message FIFO (10 R155, R156) -/

/-- What a read of the receive data port changes (10 R155). -/
def readEntryWord (s : State) : State :=
  match s.host.rx with
  | [] => setEvent .rxUnderrun s
  | e :: _ =>
    if e.words.length ≤ s.host.readPos + 1 then freeEntry s else s.setHost { s.host with readPos := s.host.readPos + 1 }

/-- RECEIVE_DATA (10 R155). -/
def execReceiveData (s : State) : Host.Outcome State Fault Refusal :=
  .next (hostRead State.nextRxWord readEntryWord s)

/-- DISCARD on the oldest entry (10 R156). -/
def discardEntry (s : State) : State :=
  match s.host.rx with
  | [] => s
  | _ :: _ => freeEntry s

/-- DISCARD (10 R156). -/
def execDiscard (s : State) : Host.Outcome State Fault Refusal := .next (hostAccess discardEntry s)

/-! ## The message under construction (10 R157, R158) -/

/-- A word can be stored in the construction (10 R157). -/
def HostFifos.wordFits (h : HostFifos) : Bool :=
  !h.overrun && decide (h.build.length < Config.maxBuildWords) && decide (h.txBytes + 4 ≤ Config.fifoBytes)

/-- A write of the transmit data port (10 R157). -/
def writeWord (w : Word) (s : State) : State :=
  if s.host.wordFits then s.setHost { s.host with build := s.host.build ++ [w] }
  else s.setHost { s.host with overrun := true }

/-- TRANSMIT_DATA (10 R157). -/
def execTransmitData (w : Word) (s : State) : Host.Outcome State Fault Refusal := .next (hostAccess (writeWord w) s)

/-- CANCEL (10 R157). -/
def execCancel (s : State) : Host.Outcome State Fault Refusal := .next (hostAccess clearBuild s)

/-- The reason code of a commit of `n` bytes, 0 when it is accepted (10 R158). -/
def HostFifos.commitReason (h : HostFifos) (n : Nat) : BitVec 3 :=
  if n < Config.minMessage ∨ Config.maxMessage < n then 1
  else if h.overrun then 5
  else if h.build.length ≠ wordsFor n then 2
  else if ((unpackWords h.build).getD 13 0).toNat ≠ n - Config.minMessage then 3
  else if Config.maxMessages ≤ h.committed.length then 4
  else 0

/-- A commit of `n` bytes (10 R158, 01 R16). -/
def commitMessage (n : Nat) (s : State) : State :=
  let r := s.host.commitReason n
  let s1 := clearBuild (s.setHost { s.host with reason := r })
  if r = 0 then s1.setHost { s1.host with committed := s.host.committed ++ [(unpackWords s.host.build).take n] }
  else setEvent .txReject s1

/-- COMMIT (10 R158). -/
def execCommit (w : Word) (s : State) : Host.Outcome State Fault Refusal :=
  .next (hostAccess (commitMessage (field w 0 8).toNat) s)

/-! ## Code tables (02 R28 to R30) -/

/-- The table of a code; code 3 names none and is stored as T, the nearest value (log 13: DEDUCED, safe). -/
def tableOfCode (v : BitVec 2) : TableId :=
  match v.toNat with
  | 0 => .c
  | 1 => .s
  | _ => .t

/-- The bank of a bank bit (02 R28). -/
def bankOfBit (b : Bool) : BankId := if b then .b else .a

/-- The selected table replaced. -/
def Banks.putSelected (b : Banks) (t : BankTable) : Banks :=
  b.put b.selBank ((b.get b.selBank).put b.selTable t)

/-- A write of table select (02 R28). -/
def selectTable (w : Word) (s : State) : State :=
  let b := { s.banks with selBank := bankOfBit (w.getLsbD 4), selTable := tableOfCode (field w 0 2) }
  s.setBanks (b.putSelected { b.selected with ptr := 0 })

/-- TABLE_SELECT (02 R28). -/
def execTableSelect (w : Word) (s : State) : Host.Outcome State Fault Refusal := .next (hostAccess (selectTable w) s)

/-- The table after a table data write while its bank is LOADING (02 R29). -/
def BankTable.write (t : BankTable) (w : Word) : BankTable :=
  if w.getLsbD 15 then
    { t with table := { t.table with pol := w.getLsbD 8, short := w.getLsbD 9, sx := field w 10 4 } }
  else
    { table := { t.table with entries := t.table.entries.set t.ptr.toNat ⟨w.getLsbD 4, field w 0 4⟩ t.ptr.isLt }
      ptr := t.ptr + 1 }

/-- A write of table data (02 R29). -/
def writeTable (w : Word) (s : State) : State :=
  if (s.banks.get s.banks.selBank).st = .loading then s.setBanks (s.banks.putSelected (s.banks.selected.write w))
  else setEvent .tableWriteIgnored s

/-- TABLE_DATA_WRITE (02 R29). -/
def execTableDataWrite (w : Word) (s : State) : Host.Outcome State Fault Refusal := .next (hostAccess (writeTable w) s)

/-- What a read of table data changes (02 R30). -/
def advancePointer (s : State) : State :=
  s.setBanks (s.banks.putSelected { s.banks.selected with ptr := s.banks.selected.ptr + 1 })

/-- TABLE_DATA_READ (02 R30). -/
def execTableDataRead (s : State) : Host.Outcome State Fault Refusal :=
  .next (hostRead (fun s => s.banks.selected.dataWord) advancePointer s)

/-! ## Error capture, events, alarms, monitor (03 R54; 10 R163 to R165) -/

/-- The error capture emptied (03 R54). -/
def emptyCapture (s : State) : State := s.setStore { s.store with capture := none, lost := false }

/-- ERROR_CAPTURE_WRITE: whatever value is written (03 R54). -/
def execErrorCaptureWrite (_w : Word) (s : State) : Host.Outcome State Fault Refusal := .next (hostAccess emptyCapture s)

/-- Latched events cleared by ones (10 R163). -/
def clearEvents (w : Word) (s : State) : State :=
  s.setStat { s.stat with events := s.stat.events &&& ~~~ field w 0 14 }

/-- EVENT_FLAGS_WRITE (10 R163). -/
def execEventFlagsWrite (w : Word) (s : State) : Host.Outcome State Fault Refusal := .next (hostAccess (clearEvents w) s)

/-- A change latch cleared by a one (10 R164). -/
def Alarm.clearLatch (v : Bool) (a : Alarm) : Alarm := { a with latch := a.latch && !v }

/-- Change latches cleared by ones (10 R164): bit 8 LOSS_OF_FRAMING, bit 9 LINE_SILENT, bit 10 DEGRADED (log 27: DESIGN
CHOICE, unsafe). -/
def clearLatches (w : Word) (s : State) : State :=
  s.setStat
    { s.stat with
      lof := s.stat.lof.clearLatch (w.getLsbD 8)
      silent := s.stat.silent.clearLatch (w.getLsbD 9)
      degraded := s.stat.degraded.clearLatch (w.getLsbD 10) }

/-- ALARMS_WRITE (10 R164). -/
def execAlarmsWrite (w : Word) (s : State) : Host.Outcome State Fault Refusal := .next (hostAccess (clearLatches w) s)

/-- A view after its selection is written: zero, not valid, when the number changes (10 R165). -/
def View.select (v : View) (old new : Ctx) : View := if old = new then v else ⟨0, false, 0, 0⟩

/-- A write of monitor select (10 R165). -/
def selectMonitor (w : Word) (s : State) : State :=
  s.setStat
    { s.stat with
      selRx := field w 0 8, selTx := field w 8 8
      viewRx := s.stat.viewRx.select s.stat.selRx (field w 0 8)
      viewTx := s.stat.viewTx.select s.stat.selTx (field w 8 8) }

/-- MONITOR_SELECT (10 R165). -/
def execMonitorSelect (w : Word) (s : State) : Host.Outcome State Fault Refusal := .next (hostAccess (selectMonitor w) s)

/-! ## Words without a row of their own (10 R153) -/

/-- A write of the event enables (10 R163): of the alarms' enables bit 16 is LOSS_OF_FRAMING's, bit 17 LINE_SILENT's and bit 18
DEGRADED's (log 27: DESIGN CHOICE, unsafe). -/
def writeEnables (w : Word) (s : State) : State :=
  s.setStat { s.stat with evEnable := field w 0 14, alEnable := field w 16 3 }

/-- A write of a configuration word: each field at the nearest value of its range (10 R153); HELD ends when CTS checking
is clear (08 R136). -/
def writeSettings (a : Nat) (w : Word) (s : State) : State :=
  let s1 := s.setCfg (s.cfg.write a w)
  if s1.cfg.ctsCheck then s1 else leaveHeld s1

/-- A write of the control word, all of it (10 R153). -/
def writeControl (w : Word) (s : State) : State :=
  s |> writeReceiveEnable (w.getLsbD 0) |> writeTransmitEnable (w.getLsbD 1)
    |> (fun s => if w.getLsbD 8 then discardEntry s else s)
    |> fun s => if w.getLsbD 9 then clearBuild s else s

/-- A write of the timer control word, all of it (10 R153, 09 R141). -/
def writeTimerControl (w : Word) (s : State) : State :=
  s |> writeRun (w.getLsbD 0) |> (fun s => if w.getLsbD 1 then reloadTimer s else s)
    |> fun s => if w.getLsbD 2 then singleIncrement s else s

/-- A write of word `a` of the register window (10 R153). A word with a row of its own acts as that row (log 19: DEDUCED,
safe); the argument word 11 is stored whole (log 12: DEDUCED, safe); a write of a read-only word or of words 43 to 63 is
ignored. -/
def writeRegister (a : BitVec 6) (w : Word) (s : State) : State :=
  match a.toNat with
  | 1 => writeControl w s
  | 3 => clearEvents w s
  | 4 => writeEnables w s
  | 5 => clearLatches w s
  | 8 => writeWord w s
  | 9 => commitMessage (field w 0 8).toNat s
  | 10 => commandWrite (commandOfCode w) s
  | 11 => s.setCu { s.cu with argument := w }
  | 13 => writeWindow 0 w s
  | 14 => writeWindow 1 w s
  | 15 => writeWindow 2 w s
  | 16 => writeWindow 3 w s
  | 17 => writeWindow 4 w s
  | 18 => writeWindow 5 w s
  | 19 => writeWindow 6 w s
  | 20 => writeWindow 7 w s
  | 21 => selectTable w s
  | 22 => writeTable w s
  | 24 => emptyCapture s
  | 25 => s.setTimer { s.timer with count := w }
  | 26 => s.setTimer { s.timer with reload := w }
  | 27 => writeTimerControl w s
  | 28 => writeSettings 28 w s
  | 29 => writeSettings 29 w s
  | 30 => writeSettings 30 w s
  | 31 => writeSettings 31 w s
  | 32 => writeSettings 32 w s
  | 33 => writeSettings 33 w s
  | 34 => writeSettings 34 w s
  | 35 => writeSettings 35 w s
  | 36 => writeSettings 36 w s
  | 37 => writeSettings 37 w s
  | 38 => selectMonitor w s
  | 41 => s.setStats { s.stats with sel := field w 0 5, selSnap := w.getLsbD 8 }
  | _ => s

/-- CONFIGURATION_WRITE (10 R153). -/
def execConfigurationWrite (addr : BitVec 6) (w : Word) (s : State) : Host.Outcome State Fault Refusal :=
  .next (hostAccess (writeRegister addr w) s)

end Sys2Proof.Machine
end

