-- ==== Sys2Proof/Machine/Dispatch.lean ====
section
/-! DEFINITION. One arm for each command: a direct call of its meaning. -/

namespace Sys2Proof.Machine

/-- A command's effect on everything but the queue. -/
def exec (i : Instr) (s : State) : Host.Outcome State Fault Refusal :=
  match i with
  | .receiveFrame bytes => Sys2Proof.Machine.execReceiveFrame bytes s
  | .expanderFrameTake => Sys2Proof.Machine.execExpanderFrameTake s
  | .expandFull => Sys2Proof.Machine.execExpandFull s
  | .expandDelta => Sys2Proof.Machine.execExpandDelta s
  | .expandBrief => Sys2Proof.Machine.execExpandBrief s
  | .rxEntryWrite => Sys2Proof.Machine.execRxEntryWrite s
  | .expanderAbandonedGrant => Sys2Proof.Machine.execExpanderAbandonedGrant s
  | .ackApply => Sys2Proof.Machine.execAckApply s
  | .refreshApply => Sys2Proof.Machine.execRefreshApply s
  | .nextFrameChoice => Sys2Proof.Machine.execNextFrameChoice s
  | .take => Sys2Proof.Machine.execTake s
  | .takeAbandonedGrant => Sys2Proof.Machine.execTakeAbandonedGrant s
  | .feedbackFrameSent => Sys2Proof.Machine.execFeedbackFrameSent s
  | .messageFrameSent => Sys2Proof.Machine.execMessageFrameSent s
  | .ctsNegated => Sys2Proof.Machine.execCtsNegated s
  | .ctsAsserted => Sys2Proof.Machine.execCtsAsserted s
  | .abortRequest => Sys2Proof.Machine.execAbortRequest s
  | .timerOverflow => Sys2Proof.Machine.execTimerOverflow s
  | .lineSilent => Sys2Proof.Machine.execLineSilent s
  | .statisticsBoundary => Sys2Proof.Machine.execStatisticsBoundary s
  | .sweepVisit => Sys2Proof.Machine.execSweepVisit s
  | .storageError dir n bits => Sys2Proof.Machine.execStorageError dir n bits s
  | .startupWalkEnd => Sys2Proof.Machine.execStartupWalkEnd s
  | .readRx => Sys2Proof.Machine.execReadRx s
  | .readTx => Sys2Proof.Machine.execReadTx s
  | .loadRx => Sys2Proof.Machine.execLoadRx s
  | .loadTx => Sys2Proof.Machine.execLoadTx s
  | .retireRx => Sys2Proof.Machine.execRetireRx s
  | .retireTx => Sys2Proof.Machine.execRetireTx s
  | .pin => Sys2Proof.Machine.execPin s
  | .unpin => Sys2Proof.Machine.execUnpin s
  | .retireAllRx => Sys2Proof.Machine.execRetireAllRx s
  | .retireAllTx => Sys2Proof.Machine.execRetireAllTx s
  | .walkStep => Sys2Proof.Machine.execWalkStep s
  | .commandTransaction => Sys2Proof.Machine.execCommandTransaction s
  | .findTx => Sys2Proof.Machine.execFindTx s
  | .openBank => Sys2Proof.Machine.execOpenBank s
  | .closeBank => Sys2Proof.Machine.execCloseBank s
  | .selectTxBank => Sys2Proof.Machine.execSelectTxBank s
  | .clearDegraded => Sys2Proof.Machine.execClearDegraded s
  | .snapshot => Sys2Proof.Machine.execSnapshot s
  | .linkReset plain => Sys2Proof.Machine.execLinkReset plain s
  | .deviceReset => Sys2Proof.Machine.execDeviceReset s
  | .unknownCommand code => Sys2Proof.Machine.execUnknownCommand code s
  | .recordWindowWrite k w => Sys2Proof.Machine.execRecordWindowWrite k w s
  | .receiveEnable on => Sys2Proof.Machine.execReceiveEnable on s
  | .transmitEnable on => Sys2Proof.Machine.execTransmitEnable on s
  | .discard => Sys2Proof.Machine.execDiscard s
  | .cancel => Sys2Proof.Machine.execCancel s
  | .receiveData => Sys2Proof.Machine.execReceiveData s
  | .transmitData w => Sys2Proof.Machine.execTransmitData w s
  | .commit w => Sys2Proof.Machine.execCommit w s
  | .tableSelect w => Sys2Proof.Machine.execTableSelect w s
  | .tableDataWrite w => Sys2Proof.Machine.execTableDataWrite w s
  | .tableDataRead => Sys2Proof.Machine.execTableDataRead s
  | .errorCaptureWrite w => Sys2Proof.Machine.execErrorCaptureWrite w s
  | .eventFlagsWrite w => Sys2Proof.Machine.execEventFlagsWrite w s
  | .alarmsWrite w => Sys2Proof.Machine.execAlarmsWrite w s
  | .monitorSelect w => Sys2Proof.Machine.execMonitorSelect w s
  | .timerTransfer => Sys2Proof.Machine.execTimerTransfer s
  | .singleIncrement => Sys2Proof.Machine.execSingleIncrement s
  | .timerRun on => Sys2Proof.Machine.execTimerRun on s
  | .configurationWrite addr w => Sys2Proof.Machine.execConfigurationWrite addr w s
  | .resetAssert => Sys2Proof.Machine.execResetAssert s
  | .resetRelease => Sys2Proof.Machine.execResetRelease s
  | .trefTick => Sys2Proof.Machine.execTrefTick s
  | .idleFillByte => Sys2Proof.Machine.execIdleFillByte s

end Sys2Proof.Machine
end

