-- ==== Sys2Proof/Safety.lean ====
section
/-! DEFINITION. What the statements speak of: which blocks a step changes, what a block reads after counts and events, the
conditions of the commands, and the invariants the spec states in bold. -/

namespace Sys2Proof.Machine

/-! ## Frames -/

/-- The blocks of the state. -/
inductive Block where
  | pending | pins | cfg | banks | store | arb | exp | comp | fbq | lrx | ltx | timer | sweep | stats | host | cu | stat
  deriving DecidableEq, Repr

/-- Two states agree on a block. -/
def agreeOn (b : Block) (s t : State) : Prop :=
  match b with
  | .pending => t.pending = s.pending
  | .pins => t.pins = s.pins
  | .cfg => t.cfg = s.cfg
  | .banks => t.banks = s.banks
  | .store => t.store = s.store
  | .arb => t.arb = s.arb
  | .exp => t.exp = s.exp
  | .comp => t.comp = s.comp
  | .fbq => t.fbq = s.fbq
  | .lrx => t.lrx = s.lrx
  | .ltx => t.ltx = s.ltx
  | .timer => t.timer = s.timer
  | .sweep => t.sweep = s.sweep
  | .stats => t.stats = s.stats
  | .host => t.host = s.host
  | .cu => t.cu = s.cu
  | .stat => t.stat = s.stat

/-- Every block outside `bs` is as it was. -/
def OnlyChanges (bs : List Block) (s t : State) : Prop := ∀ b, b ∉ bs → agreeOn b s t

/-! ## Blocks after counts, events and record writes -/

/-- The Statistics Unit after its live counters `ks` have risen by one each, in order (09 R150). -/
def Stats.counted (ks : List Counter) (t : Stats) : Stats :=
  ks.foldl (fun t k => { t with live := t.live.set k.num (satInc t.live[k.num]) }) t

/-- The status unit after the events `es` have occurred (10 R163). -/
def StatusUnit.latched (es : List Event) (u : StatusUnit) : StatusUnit :=
  { u with events := es.foldl (fun v e => v ||| 1#14 <<< e.bit) u.events }

/-- The status unit after a transaction that left receive record `n` so (10 R165). -/
def StatusUnit.seesRx (n : Ctx) (st : RxState) (c : Contents) (u : StatusUnit) : StatusUnit :=
  if u.selRx = n then { u with viewRx := ⟨st.code, true, c.age, c.seq⟩ } else u

/-- The status unit after a transaction that left transmit record `n` so (10 R165). -/
def StatusUnit.seesTx (n : Ctx) (st : TxState) (c : Contents) (u : StatusUnit) : StatusUnit :=
  if u.selTx = n then { u with viewTx := ⟨st.code, true, c.age, c.seq⟩ } else u

/-- The store with receive record `n` written (03 R44). -/
def Store.withRx (n : Ctx) (st : RxState) (c : Contents) (t : Store) : Store := { t with rx := Table.put t.rx n ⟨st, c, []⟩ }

/-- The store with transmit record `n` written (03 R44). -/
def Store.withTx (n : Ctx) (st : TxState) (c : Contents) (t : Store) : Store := { t with tx := Table.put t.tx n ⟨st, c, []⟩ }

/-- The arbiter after requester `q` has asked for a transaction (03 R45, R46). -/
def Arbiter.asked (t : Store) (q : Requester) (a : Arbiter) : Arbiter :=
  if t.st = .starting then a.setWait true q else (a.setWait true q).grant t.heldUncorrected

/-- The arbiter after the transaction in progress has ended (03 R46). -/
def Arbiter.ended (t : Store) (a : Arbiter) : Arbiter :=
  if t.st = .starting then { a with granted := none } else { a with granted := none }.grant t.heldUncorrected

/-- What an offer that overflows the Feedback Queue counts and latches (06 R109). -/
def overflowCount (q : List FbEntry) (e : FbEntry) : List Counter := if (offerTo q e).2 then [.fbOverflow] else []
def overflowEvent (q : List FbEntry) (e : FbEntry) : List Event := if (offerTo q e).2 then [.feedbackOverflow] else []

/-! ## Conditions -/

/-- Host accesses reach the block (10 R153). -/
def HostOpen (s : State) : Prop := s.pins.resetPin = false

/-- The Command Unit takes a command (10 R159). -/
def TakesCommands (s : State) : Prop := HostOpen s ∧ s.cu.st = .idle ∧ s.store.st ≠ .starting

/-- No request waits and no transaction is in progress (03 R46). -/
def StoreQuiet (s : State) : Prop := s.arb.granted = none ∧ ∀ q, s.arb.waits q = false

/-- A committed message: 14 to 238 bytes, byte 13 the payload length (01 R16, 10 R158). -/
def WellFormedMessage (m : Message) : Prop :=
  14 ≤ m.length ∧ m.length ≤ 238 ∧ (Header.ofBytes m).len.toNat = m.length - 14

/-- Two contexts agree on what a frame is expanded from: key, last sequence, last reading time, stride (04, 05). -/
def InStep (a b : Contents) : Prop := a.key = b.key ∧ a.seq = b.seq ∧ a.time = b.time ∧ a.stride = b.stride

/-- The Expander's transaction for a decoded frame: the state after it and the entry it delivers (04 R67 to R76). -/
def expanded (w : ExpWork) (s : State) : State × Option RxEntry :=
  match w with
  | .full n h stride p => ((fullTransaction n h stride p s).1, some (fullTransaction n h stride p s).2)
  | .delta n d r stride check p => deltaTransaction n d r stride check p s
  | .brief n check p => briefTransaction n check p s
  | .feedback _ _ => (s, none)

/-- The values in a coded area: context number and, in a DELTA, sequence delta, zigzag form and stride (01 R8, R9). -/
structure CodedValues where
  n      : Nat
  d      : Nat
  z      : Nat
  stride : Nat

/-- The accepted ranges of the values in a coded area; `s`: it carries a stride (02 R22). -/
def CodedValues.inRange (delta s : Bool) (x : CodedValues) : Prop :=
  x.n ≤ 255 ∧ (delta = true → 1 ≤ x.d ∧ x.d ≤ 32767 ∧ x.z ≤ 65535 ∧ (s = true → x.stride ≤ 65535))

/-- The fields of a coded area in order, each with the table that codes it (01 R8, R9; 02, 2.1). -/
def CodedValues.fields (k : Bank) (delta s : Bool) (x : CodedValues) : List (CodeTable × Nat) :=
  (k.c.table, x.n) ::
    if delta then [(k.s.table, x.d), (k.t.table, x.z)] ++ (if s then [(k.s.table, x.stride)] else []) else []

/-- `body` begins with the coded area `area` of the values `x`, all in range (01 R8, R9; 02 R21, R22). -/
def CodesArea (k : Bank) (delta s : Bool) (body : List Byte) (x : CodedValues) (area : List Bool) : Prop :=
  x.inRange delta s ∧ encodeAll (x.fields k delta s) = some area ∧ area <+: body.flatMap bitsLsb

/-! ## What a take does (05) -/

/-- `n` is the lowest free number and `i` the lowest empty slot of bucket `b`, which an opening takes (05 R88). -/
def OpensAt (s : State) (b : BitVec 6) (n : Ctx) (i : Fin 4) : Prop :=
  s.isFree n = true ∧ (∀ k, k < n → s.isFree k = false) ∧ s.slotAt b i = none ∧ ∀ j, j < i → s.slotAt b j ≠ none

/-- No number is free, or bucket `b` has no empty slot (05 R88, R93). -/
def NoOpening (s : State) (b : BitVec 6) : Prop := (∀ n, s.isFree n = false) ∨ ∀ j, s.slotAt b j ≠ none

/-- `v`, in slot `i` of bucket `b`, is the unpinned context of greatest age, in the lowest-numbered slot (05 R94). -/
def IsVictim (s : State) (b : BitVec 6) (i : Fin 4) (v : Ctx) : Prop :=
  (∃ sl, s.slotAt b i = some sl ∧ sl.n = v) ∧ (s.txRec v).c.pinned = false ∧
    ∀ j sl, s.slotAt b j = some sl → (s.txRec sl.n).c.pinned = false →
      (s.txRec sl.n).c.age ≤ (s.txRec v).c.age ∧ (j < i → (s.txRec sl.n).c.age < (s.txRec v).c.age)

/-- What a context opened or evicted for a message with header `h` holds once its FULL frame is taken (05 R88, R91, R95). -/
def openedContents (h : Header) : Contents :=
  { key := h.key, seq := h.seq, time := h.time, stride := 0, tally := 1, age := 0, pinned := false, uses := 1 }

/-- Its state: OPEN at an optimistic count of 1 (05 R92). -/
def openedState (c : Settings) : TxState := if c.optimistic = 1 then .opened else .opening

/-- Context `n` opened in slot `i` for message `m`, on the store of `u` (05 R88; 03 R40 to R43). -/
def ContextOpened (m : Message) (n : Ctx) (i : Fin 4) (u t : State) : Prop :=
  let h := Header.ofBytes m
  t.store = { u.store.withTx n (openedState u.cfg) (openedContents h) with
    index := u.store.index.set h.key.bucket.toNat
      ((u.store.index[h.key.bucket.toNat]'h.key.bucket.isLt).set i (some ⟨n, h.key.signature⟩)) h.key.bucket.isLt
    refs := Table.put u.store.refs n (some ⟨h.key.bucket, i⟩)
    free := Table.put u.store.free n false } ∧
  t.stat = u.stat.seesTx n (openedState u.cfg) (openedContents h)

/-- A take from `s` has ended in `t` and handed the transmitter a frame with kind byte and body `data` (05 R97, 08 R135). -/
def TakeSends (f : TxFormat) (kind : FrameKind) (n : Option Ctx) (data : List Byte) (s t : State) : Prop :=
  t.comp = { s.comp with work := .sending } ∧
    t.ltx = { s.ltx with inFlight := some ⟨kind, n⟩, rest := lineFrame f data } ∧
    t.arb = s.arb.ended t.store ∧ OnlyChanges [.store, .stats, .stat, .comp, .ltx, .arb] s t

/-! ## A frame that CTS ends (08) -/

/-- A byte slot has abandoned frame `fl`: it is counted and not sent further, the abort request is asked for when it names a
context, and the slot's byte is what the transmitter sends then (08 R132, R137, R138; 05 R99). -/
def AbandonedInSlot (fl : InFlight) (s t : State) : Prop :=
  t.stats = s.stats.counted [.txAborted] ∧ t.stat = s.stat.latched [.txAborted] ∧
    OnlyChanges [.pins, .ltx, .comp, .stats, .stat, .arb] s t ∧
    (∀ n, fl.n = some n →
      t.comp = { s.comp with work := .aborting n } ∧ t.arb = s.arb.asked s.store .compressor ∧
      t.ltx = { s.ltx with inFlight := none, rest := [], gap := 0 } ∧ t.pins = { s.pins with txd := [s.cfg.idleFill] }) ∧
    (fl.n = none → t.comp = { s.comp with work := .idle } ∧ t.arb = s.arb ∧
      (s.ltx.enable = true → t.ltx = { s.ltx with st := .idle, inFlight := none, rest := [], gap := 1 } ∧
        t.pins = { s.pins with txd := [s.cfg.idleFill] }) ∧
      (s.ltx.enable = false → t.ltx = { s.ltx with st := .disabled, inFlight := none, rest := [], gap := 0 } ∧
        t.pins = { s.pins with txd := [0xFF#8] }))

/-! ## Invariants -/

/-- 02 R34: the working bank and the pending bank are never LOADING (with R33 they are VALID). -/
def BanksUsable (s : State) : Prop :=
  (s.banks.get s.comp.working).st = .valid ∧ ∀ k, s.comp.pendingBank = some k → (s.banks.get k).st = .valid

/-- 03 R41, R42: references and slots name each other, for the slotted transmit contexts and no other. -/
structure IndexSound (s : State) : Prop where
  slotted : ∀ n, (s.txRec n).st.slotted = true → ∃ i, s.refOf n = some ⟨(s.txRec n).c.key.bucket, i⟩ ∧
    s.slotAt (s.txRec n).c.key.bucket i = some ⟨n, (s.txRec n).c.key.signature⟩
  bare : ∀ n, (s.txRec n).st.slotted = false → s.refOf n = none
  filled : ∀ b i sl, s.slotAt b i = some sl → (s.txRec sl.n).st.slotted = true ∧ s.refOf sl.n = some ⟨b, i⟩

/-- 03 R42: no two slotted transmit contexts hold equal keys. -/
def KeysDistinct (s : State) : Prop :=
  ∀ n m, (s.txRec n).st.slotted = true → (s.txRec m).st.slotted = true →
    (s.txRec n).c.key = (s.txRec m).c.key → n = m

/-- 03 R43: the free map marks exactly the FREE transmit contexts. -/
def FreeMapSound (s : State) : Prop := ∀ n, s.isFree n = true ↔ (s.txRec n).st = .free

/-- The three together, which every step keeps. -/
structure TransmitStoreSound (s : State) : Prop where
  index : IndexSound s
  keys : KeysDistinct s
  free : FreeMapSound s

/-- 03 R37: a FREE or DAMAGED record holds zero contents. -/
def ContentsSound (s : State) : Prop :=
  (∀ n, (s.rxRec n).st.keyed = false → (s.rxRec n).c = .zero) ∧
  ∀ n, (s.txRec n).st.slotted = false → (s.txRec n).c = .zero

/-- 04 R74: a SUSPECT receive context has a failure count from 1 to 6, any other a count of 0. -/
def FailureCountsSound (s : State) : Prop :=
  ∀ n, ((s.rxRec n).st = .suspect → 1 ≤ (s.rxRec n).c.tally.toNat ∧ (s.rxRec n).c.tally.toNat ≤ 6) ∧
    ((s.rxRec n).st ≠ .suspect → (s.rxRec n).c.tally = 0)

/-- 06 R103: at most 16 entries, no two with the same context number. -/
def QueueSound (q : List FbEntry) : Prop := q.length ≤ 16 ∧ (q.map FbEntry.n).Nodup

/-- The bytes of the receive message FIFO kept for the entry of the Expander's frame in work (04 R63). -/
def ExpState.reserved : ExpState → Nat
  | .busy _ w => (w.payloadLength.map entrySize).getD 0
  | .deliver _ e => e.size
  | .idle => 0
  | .abandonedWaiting => 0
  | .abandonedRunning _ => 0

/-- 10 R154: the bounds of the message FIFOs, with the space the Expander has found kept for it (04 R63). -/
structure FifoBounds (s : State) : Prop where
  receive : s.host.rxBytes + s.exp.reserved ≤ 4096
  messages : s.host.committed.length ≤ 32
  transmit : s.host.txBytes ≤ 4096

/-- The Expander has asked for a transaction that has not ended (04 R62). -/
def ExpState.asks : ExpState → Bool
  | .busy _ _ => true
  | .abandonedWaiting => true
  | .abandonedRunning _ => true
  | .idle => false
  | .deliver _ _ => false

/-- The Compressor has asked for a transaction that has not ended (05 R84, R99). -/
def CompWork.asks : CompWork → Bool
  | .taking _ _ _ => true
  | .aborting _ => true
  | .idle => false
  | .sending => false

/-- 03 R45, R46: a requester waits for the store or holds it exactly while it has a transaction to make, never both; a
store that is not STARTING and has a request waiting is granted; a Compressor at work keeps the transmitter in FRAME. -/
structure RequestsMatched (s : State) : Prop where
  expander : (s.arb.waits .expander || s.holds .expander) = s.exp.asks
  compressor : (s.arb.waits .compressor || s.holds .compressor) = s.comp.work.asks
  command : (s.arb.waits .command || s.holds .command) = s.cu.st.busyBit
  sweep : (s.arb.waits .sweep || s.holds .sweep) = s.sweep.idx.isSome
  single : ∀ q, ¬ (s.arb.waits q = true ∧ s.holds q = true)
  granted : s.store.st ≠ .starting → s.arb.granted = none → ∀ q, s.arb.waits q = false
  starting : s.store.st = .starting → s.arb.granted = none
  line : s.ltx.st ≠ .frame → s.comp.work = .idle
  feedback : ∀ f, s.ltx.inFlight = some f → f.kind = .feedback → s.comp.work = .idle

end Sys2Proof.Machine
end

