-- ==== Sys2Proof/Certificates/Slice0/Obligations.lean ====
section
/-! DEFINITION. The statements for the provers. A docstring names the log entry where a clause rests on the model's choice. -/

section
open Sys2Proof Sys2Proof.Machine

/-! ## The machine -/

/-- A step runs the command at the front of the queue on the state with the queue's rest. -/
def Obligations.FrontCommandIsRun : Prop :=
  ∀ (c : Instr) (s : State), step (s.setPending (c :: s.pending)) = exec c s

/-- The model's choice (log 2): on an empty queue the block idles. -/
def Obligations.EmptyQueueIdles : Prop :=
  ∀ s : State, s.pending = [] → step s = .next s

/-- No command stops the block, and none touches the queue. -/
def Obligations.EveryCommandAnswersNext : Prop :=
  ∀ (c : Instr) (s : State), ∃ t, exec c s = .next t ∧ t.pending = s.pending

/-! ## Invariants -/

/-- The machine right after a device reset satisfies the invariants below. -/
def Obligations.InvariantsHoldAtReset : Prop :=
  TransmitStoreSound State.reset ∧ ContentsSound State.reset ∧ FailureCountsSound State.reset ∧
    QueueSound State.reset.fbq ∧ BanksUsable State.reset ∧ FifoBounds State.reset ∧ RequestsMatched State.reset

/-- Index, references, keys and free map of the transmit contexts stay sound. -/
def Obligations.StepKeepsTransmitStoreSound : Prop :=
  ∀ s t : State, TransmitStoreSound s → step s = .next t → TransmitStoreSound t

/-- The feedback queue holds at most 16 entries, no two with one number. -/
def Obligations.StepKeepsFeedbackQueueSound : Prop :=
  ∀ s t : State, QueueSound s.fbq → step s = .next t → QueueSound t.fbq

/-- The working bank and the pending bank stay VALID. -/
def Obligations.StepKeepsBanksUsable : Prop :=
  ∀ s t : State, BanksUsable s → step s = .next t → BanksUsable t

/-- The message FIFOs stay within their bounds. -/
def Obligations.StepKeepsFifoBounds : Prop :=
  ∀ s t : State, FifoBounds s → step s = .next t → FifoBounds t

/-- FREE and DAMAGED records hold zero contents; SUSPECT contexts, and they alone, have a failure count, 1 to 6. -/
def Obligations.StepKeepsRecordsSound : Prop :=
  ∀ s t : State, ContentsSound s ∧ FailureCountsSound s → step s = .next t → ContentsSound t ∧ FailureCountsSound t

/-- A requester waits for the store or holds it exactly while it has a transaction to make. -/
def Obligations.StepKeepsRequestsMatched : Prop :=
  ∀ s t : State, RequestsMatched s → step s = .next t → RequestsMatched t

/-- While the store is DEGRADED only an accepted LOAD, in its granted transaction, takes a record out of FREE. -/
def Obligations.DegradedStoreCreatesNothing : Prop :=
  ∀ (c : Instr) (s t : State) (n : Ctx), s.store.st = .degraded →
    ¬ (c = .commandTransaction ∧ ∃ k d, s.cu.st = .busy .loadRx k d ∨ s.cu.st = .busy .loadTx k d) →
    exec c s = .next t →
    ((s.rxRec n).st = .free → (t.rxRec n).st = .free) ∧ ((s.txRec n).st = .free → (t.txRec n).st = .free)

/-! ## Formats and codes -/

/-- With every table: what is encoded decodes to itself and leaves the bits after it, and the encodable values are those
from 0 to the top of the code. -/
def Obligations.CodeRoundTrip : Prop :=
  ∀ (k : CodeTable) (v : Nat),
    (∀ bits rest, k.encode v = some bits → k.decode (bits ++ rest) = .ok (v, rest)) ∧
      ((k.encode v).isSome = true ↔ v ≤ k.top)

/-- The zigzag form of a residual and back, both ways. -/
def Obligations.ZigzagFormRoundTrip : Prop :=
  (∀ r : Int, -32768 ≤ r → r ≤ 32767 →
    (0 ≤ r → (zigzag r : Int) = 2 * r) ∧ (r < 0 → (zigzag r : Int) = -2 * r - 1) ∧ zigzag r ≤ 65535 ∧
      unzigzag (zigzag r) = r) ∧
  ∀ z : Nat, z ≤ 65535 →
    (z % 2 = 0 → unzigzag z = (z : Int) / 2) ∧ (z % 2 = 1 → unzigzag z = -(((z : Int) + 1) / 2)) ∧
      -32768 ≤ unzigzag z ∧ unzigzag z ≤ 32767 ∧ zigzag (unzigzag z) = z

/-- Every frame the engine builds passes validation at a peer with the same banks, and is decoded to what was encoded. Of
any other frame: which kind bytes, bodies, coded areas, check bytes and banks validation refuses, and as what. -/
def Obligations.BuiltFramesValidate : Prop :=
  (∀ (banks : Banks) (m : Message), WellFormedMessage m →
    validate banks (builtRaw m).data = .raw (Header.ofBytes m) (m.drop 14) ∧
    (∀ n stride, validate banks (builtFull n stride m).data = .work (.full n (Header.ofBytes m) stride (m.drop 14))) ∧
    (∀ k n bits, (banks.get k).st = .valid → encodeAll [((banks.get k).c.table, n.toNat)] = some bits →
      validate banks (builtCoded .brief k false n bits m).data =
        .work (.brief n (headerCheck (Header.ofBytes m)) (m.drop 14))) ∧
    (∀ k (n : Ctx) (d : Nat) (r : Int) (stride : Option Half) bits, (banks.get k).st = .valid → 1 ≤ d → d ≤ 32767 →
      -32768 ≤ r → r ≤ 32767 →
      encodeAll ([((banks.get k).c.table, n.toNat), ((banks.get k).s.table, d), ((banks.get k).t.table, zigzag r)] ++
        (stride.map fun v => ((banks.get k).s.table, v.toNat)).toList) = some bits →
      validate banks (builtCoded .delta k stride.isSome n bits m).data =
        .work (.delta n d r stride (headerCheck (Header.ofBytes m)) (m.drop 14)))) ∧
  (∀ (banks : Banks) (e : FbEntry) (es : List FbEntry), es.length ≤ 3 →
    validate banks (feedbackData (e :: es)) = .work (.feedback e es)) ∧
  (encodeAll [] = some [] ∧ ∀ (t : CodeTable) (v : Nat) fs,
    encodeAll ((t, v) :: fs) = (t.encode v).bind fun a => (encodeAll fs).map fun b => a ++ b) ∧
  ∀ (banks : Banks) (kb : Byte) (body : List Byte),
    let kind := (kb.extractLsb' 0 3).toNat
    let bankBit := kb.getLsbD 3
    let strideBit := kb.getLsbD 4
    let verdict := validate banks (kb :: body)
    ((kb.extractLsb' 5 3 ≠ 0 ∨ 5 ≤ kind ∨ ((kind = 0 ∨ kind = 1 ∨ kind = 4) ∧ (bankBit || strideBit) = true) ∨
        (kind = 3 ∧ strideBit = true)) → verdict = .malformed) ∧
    (kb = 0 →
      let h := Header.ofBytes body
      verdict = if 14 ≤ body.length ∧ body.length ≤ 238 ∧ h.len.toNat = body.length - 14 then .raw h (body.drop 14)
        else .malformed) ∧
    (kb = 1 →
      let h := Header.ofBytes (body.drop 1)
      verdict = if 17 ≤ body.length ∧ body.length ≤ 241 ∧ h.len.toNat = body.length - 17 then
          .work (.full (body.getD 0 0) h (half (body.getD 15 0) (body.getD 16 0)) (body.drop 17))
        else .malformed) ∧
    (kb = 4 → (∀ e es, es.length ≤ 3 → kb :: body ≠ feedbackData (e :: es)) → verdict = .malformed) ∧
    (kb.extractLsb' 5 3 = 0 → (kind = 2 ∨ kind = 3 ∧ strideBit = false) →
      let k := banks.get (if bankBit then .b else .a)
      let delta := decide (kind = 2)
      (k.st ≠ .valid → verdict = .codeError) ∧
      (k.st = .valid → (∀ x area, ¬ CodesArea k delta strideBit body x area) → verdict = .codeError) ∧
      ∀ x area, k.st = .valid → CodesArea k delta strideBit body x area →
        let after := body.drop ((area.length + 7) / 8)
        (after = [] → verdict = .malformed) ∧
        ∀ check payload, after = check :: payload →
          ((check.msb = true ∨ 224 < payload.length) → verdict = .malformed) ∧
          (check.msb = false → payload.length ≤ 224 →
            verdict = .work (if delta then
                .delta (BitVec.ofNat 8 x.n) x.d (unzigzag x.z) (if strideBit then some (BitVec.ofNat 16 x.stride) else none)
                  (check.setWidth 7) payload
              else .brief (BitVec.ofNat 8 x.n) (check.setWidth 7) payload)))

/-- The agreement of the two engines: when the receive context holds what the transmit context holds, the frame a take
builds expands to the message taken, header and payload, and the two contexts still agree. -/
def Obligations.ContextsStayInStep : Prop :=
  ∀ (a b : State) (n : Ctx) (m : Message), WellFormedMessage m → (a.txRec n).st.slotted = true →
    (a.txRec n).c.key = (Header.ofBytes m).key → (b.rxRec n).st = .live → (b.rxRec n).flips = [] →
    InStep (a.txRec n).c (b.rxRec n).c → (a.banks.get a.comp.working).st = .valid →
    b.banks.get a.comp.working = a.banks.get a.comp.working →
    ∃ w e, validate b.banks (sendFrom n m a).2.data = .work w ∧ (expanded w b).2 = some e ∧
      e.n = n ∧ e.kind = (sendFrom n m a).2.kind ∧ e.repaired = 0 ∧
      e.header = Header.ofBytes m ∧ e.payload = m.drop 14 ∧
      ((expanded w b).1.rxRec n).st = .live ∧
      InStep ((sendFrom n m a).1.txRec n).c ((expanded w b).1.rxRec n).c

/-! ## The Line Receiver -/

/-- A frame sent with the format the receiver is configured for is staged, byte for byte. -/
def Obligations.SentFrameIsStaged : Prop :=
  ∀ (s : State) (f : TxFormat) (data : List Byte) (k : Fin 2),
    s.lrx.st = .hunt [] → s.lrx.claim = some k →
    1 ≤ s.cfg.syncLen.toNat → s.cfg.syncLen.toNat ≤ 4 →
    f.sync = s.cfg.sync → f.addrWide = s.cfg.addrWide → f.crc = s.cfg.crc → s.cfg.rxFormat.accepts f.peer = true →
    1 ≤ data.length → data.length ≤ 250 → data.length ≤ s.cfg.rxLimit.toNat →
    ∃ t, exec (.receiveFrame (lineFrame f data)) s = .next t ∧
      t.lrx = { s.lrx with
        st := .hunt []
        bufs := s.lrx.bufs.set k ⟨.staged, BitVec.ofNat 8 data.length, data⟩
        order := s.lrx.order ++ [k]
        badRun := 0, goodRun := satInc s.lrx.goodRun, silence := 0 } ∧
      t.stats = s.stats.counted [.rxGood] ∧
      t.stat = { s.stat with
        lof := if s.stat.lof.live = true ∧ s.cfg.kGood ≤ satInc s.lrx.goodRun then ⟨false, true⟩ else s.stat.lof
        silent := if s.stat.silent.live then ⟨false, true⟩ else s.stat.silent } ∧
      OnlyChanges [.lrx, .stats, .stat] s t

/-- Bytes received change no context record, no key index slot and no feedback queue entry; of the Host Port they can only
set the lost mark. -/
def Obligations.ReceivedBytesTouchNoContext : Prop :=
  ∀ (bytes : List Byte) (s : State),
    ∃ t, exec (.receiveFrame bytes) s = .next t ∧ OnlyChanges [.lrx, .stats, .stat, .host] s t ∧
      t.host = { s.host with lostMark := t.host.lostMark } ∧ (s.host.lostMark = true → t.host.lostMark = true)

/-- What follows a sync match at once: a wrong line CRC, a length outside its bounds, an address that is refused, and no free
staging buffer (`rest` stands for the kind byte, the body and the CRC). A refused address with a length of 0 or above 250 is
counted at the length byte; without a free buffer a length that fails its test is a length error and no overrun. -/
def Obligations.RefusedFramesAreCounted : Prop :=
  ∀ (s : State) (a : Half) (l : Byte) (rest : List Byte), s.lrx.st = .address s.cfg.rxFormat [] →
    (∀ k, s.cfg.rxFormat.accepts a = true → s.lrx.claim = some k → 1 ≤ l.toNat → l.toNat ≤ 250 →
      l.toNat ≤ s.cfg.rxLimit.toNat → rest.length = l.toNat + s.cfg.crc.count →
      rest.drop l.toNat ≠ lineCrc s.cfg.crc (addrBytes s.cfg.addrWide a ++ [l] ++ rest.take l.toNat) →
      ∃ t, exec (.receiveFrame (addrBytes s.cfg.addrWide a ++ [l] ++ rest)) s = .next t ∧
        t.lrx = { s.lrx with
          st := .hunt [], bufs := s.lrx.bufs.set k .empty, goodRun := 0, badRun := satInc s.lrx.badRun } ∧
        t.stats = s.stats.counted [.rxCrcErr] ∧
        t.stat = { s.stat with
          lof := if s.stat.lof.live = false ∧ s.cfg.kBad ≤ satInc s.lrx.badRun then ⟨true, true⟩ else s.stat.lof } ∧
        OnlyChanges [.lrx, .stats, .stat] s t) ∧
    (∀ k, s.cfg.rxFormat.accepts a = true → s.lrx.claim = some k →
      (l = 0 ∨ 250 < l.toNat ∨ s.cfg.rxLimit.toNat < l.toNat) →
      ∃ t, exec (.receiveFrame (addrBytes s.cfg.addrWide a ++ [l])) s = .next t ∧
        t.lrx = { s.lrx with
          st := .hunt [], bufs := s.lrx.bufs.set k .empty, goodRun := 0, badRun := satInc s.lrx.badRun } ∧
        t.stats = s.stats.counted [.rxMalformed] ∧
        t.stat = { s.stat with
          lof := if s.stat.lof.live = false ∧ s.cfg.kBad ≤ satInc s.lrx.badRun then ⟨true, true⟩ else s.stat.lof } ∧
        OnlyChanges [.lrx, .stats, .stat] s t) ∧
    (s.cfg.rxFormat.accepts a = false → 1 ≤ l.toNat → l.toNat ≤ 250 → rest.length = l.toNat + s.cfg.crc.count →
      ∃ t, exec (.receiveFrame (addrBytes s.cfg.addrWide a ++ [l] ++ rest)) s = .next t ∧
        t.lrx = { s.lrx with st := .hunt [] } ∧ t.stats = s.stats.counted [.addrReject] ∧
        OnlyChanges [.lrx, .stats] s t) ∧
    (s.cfg.rxFormat.accepts a = false → (l = 0 ∨ 250 < l.toNat) →
      ∃ t, exec (.receiveFrame (addrBytes s.cfg.addrWide a ++ [l])) s = .next t ∧
        t.lrx = { s.lrx with st := .hunt [] } ∧ t.stats = s.stats.counted [.addrReject] ∧
        OnlyChanges [.lrx, .stats] s t) ∧
    (s.cfg.rxFormat.accepts a = true → s.lrx.claim = none → (l = 0 ∨ 250 < l.toNat ∨ s.cfg.rxLimit.toNat < l.toNat) →
      ∃ t, exec (.receiveFrame (addrBytes s.cfg.addrWide a ++ [l])) s = .next t ∧
        t.lrx = { s.lrx with st := .hunt [], goodRun := 0, badRun := satInc s.lrx.badRun } ∧
        t.stats = s.stats.counted [.rxMalformed] ∧
        t.stat = { s.stat with
          lof := if s.stat.lof.live = false ∧ s.cfg.kBad ≤ satInc s.lrx.badRun then ⟨true, true⟩ else s.stat.lof } ∧
        OnlyChanges [.lrx, .stats, .stat] s t) ∧
    (s.cfg.rxFormat.accepts a = true → s.lrx.claim = none → 1 ≤ l.toNat → l.toNat ≤ 250 →
      l.toNat ≤ s.cfg.rxLimit.toNat → rest.length = l.toNat + s.cfg.crc.count →
      ∃ t, exec (.receiveFrame (addrBytes s.cfg.addrWide a ++ [l] ++ rest)) s = .next t ∧
        t.lrx = { s.lrx with st := .hunt [] } ∧ t.stats = s.stats.counted [.rxOverrun] ∧
        t.stat = s.stat.latched [.rxLost] ∧ t.host = { s.host with lostMark := true } ∧
        OnlyChanges [.lrx, .stats, .stat, .host] s t)

/-! ## The Expander -/

/-- The idle Expander takes the oldest staged frame: refused by validation, delivered at once (RAW), its transaction asked
for, or dropped for want of space in the receive message FIFO. -/
def Obligations.StagedFrameIsTaken : Prop :=
  ∀ (s : State) (k : Fin 2) (rest : List (Fin 2)), s.exp = .idle → s.lrx.order = k :: rest →
    let data := s.lrx.bufs[k].data
    let freed := { s.lrx with order := rest, bufs := s.lrx.bufs.set k .empty }
    let kept := { s.lrx with order := rest, bufs := s.lrx.bufs.set k { s.lrx.bufs[k] with st := .inWork } }
    let room := fun p : List Byte => s.host.rxBytes + 4 * ((18 + p.length + 3) / 4) ≤ 4096
    ∃ t, exec .expanderFrameTake s = .next t ∧
      (validate s.banks data = .malformed →
        t.lrx = freed ∧ t.stats = s.stats.counted [.rxMalformed] ∧ OnlyChanges [.lrx, .stats] s t) ∧
      (validate s.banks data = .codeError →
        t.lrx = freed ∧ t.stats = s.stats.counted [.codeErr] ∧ OnlyChanges [.lrx, .stats] s t) ∧
      (∀ h p, validate s.banks data = .raw h p → room p →
        t.lrx = freed ∧ t.stats = s.stats.counted [.expRaw] ∧
        t.host = { s.host with
          rx := s.host.rx ++ [{ plainEntry .raw 0 h p with lostBefore := s.host.lostMark }], lostMark := false } ∧
        OnlyChanges [.lrx, .stats, .host] s t) ∧
      (∀ e es, validate s.banks data = .work (.feedback e es) →
        t.lrx = kept ∧ t.exp = .busy k (.feedback e es) ∧ t.stats = s.stats.counted [.fbReceived] ∧
        t.arb = s.arb.asked s.store .expander ∧ OnlyChanges [.lrx, .exp, .stats, .arb] s t) ∧
      (∀ w p, validate s.banks data = .work w → w.payloadLength = some p.length → room p →
        t.lrx = kept ∧ t.exp = .busy k w ∧ t.arb = s.arb.asked s.store .expander ∧
        OnlyChanges [.lrx, .exp, .arb] s t) ∧
      (∀ p, ((∃ h, validate s.banks data = .raw h p) ∨
          ∃ w, validate s.banks data = .work w ∧ w.payloadLength = some p.length) → ¬ room p →
        t.lrx = freed ∧ t.stats = s.stats.counted [.rxFifoDrop] ∧ t.stat = s.stat.latched [.rxLost] ∧
        t.host = { s.host with lostMark := true } ∧ OnlyChanges [.lrx, .stats, .stat, .host] s t)

/-- The decision for a FULL frame on the record as the checked read left it (`s1`): not stored in a DEGRADED store, else
created, refreshed, restored or replaced. -/
def Obligations.FullFrameDecision : Prop :=
  ∀ (s : State) (k : Fin 2) (n : Ctx) (h : Header) (stride : Half) (p : List Byte),
    s.holds .expander = true → s.exp = .busy k (.full n h stride p) →
    let s1 := readRx .expander n s
    let r := s1.rxRec n
    let same := decide (r.c.key = h.key)
    let c : Contents :=
      { key := h.key, seq := h.seq, time := h.time, stride := stride, tally := 0, age := 0
        pinned := r.st.keyed && r.c.pinned, uses := if r.st.keyed && same then r.c.uses else 0 }
    ∃ t, exec .expandFull s = .next t ∧ t.arb = s1.arb.ended s1.store ∧
      OnlyChanges [.store, .stats, .stat, .fbq, .exp, .arb] s t ∧
      (r.st = .free → s1.store.st = .degraded →
        t.exp = .deliver k { plainEntry .full n h p with notStored := true } ∧ t.store = s1.store ∧
        t.fbq = s.fbq ∧ t.stat = s1.stat ∧ t.stats = s1.stats.counted [.expFull]) ∧
      ((r.st ≠ .free ∨ s1.store.st ≠ .degraded) →
        t.exp = .deliver k
          { plainEntry .full n h p with
            isNew := decide (r.st = .free)
            replaced := r.st.keyed && !same
            restored := decide (r.st = .damaged) || (decide (r.st = .lost) && same) } ∧
        t.store = s1.store.withRx n .live c ∧
        (s.cfg.ackEnable = false → t.fbq = s.fbq ∧ t.stat = s1.stat.seesRx n .live c ∧
          t.stats = s1.stats.counted (.expFull :: if r.st = .free then [.ctxCreatedRx] else [])) ∧
        (s.cfg.ackEnable = true → t.fbq = (offerTo s.fbq ⟨.ack, n⟩).1 ∧
          t.stat = (s1.stat.seesRx n .live c).latched (overflowEvent s.fbq ⟨.ack, n⟩) ∧
          t.stats = s1.stats.counted
            ((.expFull :: if r.st = .free then [.ctxCreatedRx] else []) ++ overflowCount s.fbq ⟨.ack, n⟩)))

/-- A DELTA frame whose rebuilt header has the received check, and a BRIEF frame whose hypothesis j is the first to have it,
on a LIVE or SUSPECT context. -/
def Obligations.CompressedFrameAccepted : Prop :=
  ∀ (s : State) (k : Fin 2) (n : Ctx) (check : BitVec 7) (p : List Byte), s.holds .expander = true →
    let s1 := readRx .expander n s
    let r := s1.rxRec n
    (r.st = .live ∨ r.st = .suspect) →
    let after := fun (h : Header) (v : Half) =>
      ({ r.c with seq := h.seq, time := h.time, stride := v, tally := 0, age := 0, uses := satInc r.c.uses } : Contents)
    (∀ (d : Nat) (q : Int) (v : Option Half), s.exp = .busy k (.delta n d q v check p) →
      let used := v.getD r.c.stride
      let h : Header := ⟨r.c.key, r.c.seq + BitVec.ofNat 16 d,
        r.c.time + BitVec.ofNat 32 (d * used.toNat) + BitVec.ofInt 32 q, BitVec.ofNat 8 p.length⟩
      headerCheck h = check →
      ∃ t, exec .expandDelta s = .next t ∧ t.exp = .deliver k (plainEntry .delta n h p) ∧
        t.store = s1.store.withRx n .live (after h used) ∧ t.stat = s1.stat.seesRx n .live (after h used) ∧
        t.stats = s1.stats.counted [.expDelta] ∧ t.arb = s1.arb.ended s1.store ∧
        OnlyChanges [.store, .stats, .stat, .exp, .arb] s t) ∧
    (∀ j : Nat, s.exp = .busy k (.brief n check p) → 1 ≤ j → j ≤ s.cfg.repairDepth.toNat + 1 →
      let h := fun i : Nat => (⟨r.c.key, r.c.seq + BitVec.ofNat 16 i, r.c.time + BitVec.ofNat 32 (i * r.c.stride.toNat),
        BitVec.ofNat 8 p.length⟩ : Header)
      headerCheck (h j) = check → (∀ i, 1 ≤ i → i < j → headerCheck (h i) ≠ check) →
      ∃ t, exec .expandBrief s = .next t ∧
        t.exp = .deliver k { plainEntry .brief n (h j) p with repaired := BitVec.ofNat 2 (j - 1) } ∧
        t.store = s1.store.withRx n .live (after (h j) r.c.stride) ∧
        t.stat = s1.stat.seesRx n .live (after (h j) r.c.stride) ∧
        t.stats = s1.stats.counted (.expBrief :: if 2 ≤ j then [.repaired] else []) ∧
        t.arb = s1.arb.ended s1.store ∧ OnlyChanges [.store, .stats, .stat, .exp, .arb] s t)

/-- A DELTA or BRIEF frame that is discarded: its context is FREE, LOST or DAMAGED, whatever its check, or its check matches no
header tried, below or at the failure limit. -/
def Obligations.CompressedFrameRefused : Prop :=
  ∀ (s : State) (k : Fin 2) (n : Ctx) (check : BitVec 7) (p : List Byte) (i : Instr), s.holds .expander = true →
    let s1 := readRx .expander n s
    let r := s1.rxRec n
    let absent := r.st = .free ∨ r.st = .lost ∨ r.st = .damaged
    let lost : Contents := { r.c with tally := 0 }
    let failed : Contents := { r.c with tally := r.c.tally + 1 }
    ((i = .expandDelta ∧ ∃ d q v, s.exp = .busy k (.delta n d q v check p) ∧ (absent ∨
        headerCheck ⟨r.c.key, r.c.seq + BitVec.ofNat 16 d,
          r.c.time + BitVec.ofNat 32 (d * (v.getD r.c.stride).toNat) + BitVec.ofInt 32 q, BitVec.ofNat 8 p.length⟩ ≠ check)) ∨
      (i = .expandBrief ∧ s.exp = .busy k (.brief n check p) ∧ (absent ∨
        ∀ j : Nat, 1 ≤ j → j ≤ s.cfg.repairDepth.toNat + 1 →
          headerCheck ⟨r.c.key, r.c.seq + BitVec.ofNat 16 j, r.c.time + BitVec.ofNat 32 (j * r.c.stride.toNat),
            BitVec.ofNat 8 p.length⟩ ≠ check))) →
    ∃ t, exec i s = .next t ∧ t.exp = .idle ∧ t.lrx = { s.lrx with bufs := s.lrx.bufs.set k .empty } ∧
      t.arb = s1.arb.ended s1.store ∧ OnlyChanges [.store, .stats, .stat, .fbq, .exp, .lrx, .arb] s t ∧
      ((r.st = .live ∨ r.st = .suspect) → r.c.tally.toNat + 1 < s.cfg.failLimit.toNat →
        t.store = s1.store.withRx n .suspect failed ∧ t.stat = s1.stat.seesRx n .suspect failed ∧
        t.stats = s1.stats.counted [.checkFail] ∧ t.fbq = s.fbq) ∧
      ((r.st = .live ∨ r.st = .suspect) → s.cfg.failLimit.toNat ≤ r.c.tally.toNat + 1 →
        t.store = s1.store.withRx n .lost lost ∧
        t.stat = (s1.stat.seesRx n .lost lost).latched (.contextLost :: overflowEvent s.fbq ⟨.refresh, n⟩) ∧
        t.stats = s1.stats.counted (.checkFail :: overflowCount s.fbq ⟨.refresh, n⟩) ∧
        t.fbq = (offerTo s.fbq ⟨.refresh, n⟩).1) ∧
      (absent →
        t.store = s1.store ∧ t.stat = s1.stat.latched (overflowEvent s.fbq ⟨.refresh, n⟩) ∧
        t.stats = s1.stats.counted (.discardNoContext :: overflowCount s.fbq ⟨.refresh, n⟩) ∧
        t.fbq = (offerTo s.fbq ⟨.refresh, n⟩).1)

/-- The entry of a frame whose transaction has ended is written at the tail, with the lost mark. Of a frame that a link reset has
abandoned while its transaction was in progress, the transaction runs whole and no entry is written; of a FEEDBACK frame the
entry whose transaction was in progress is applied, as the last one, and no entry after it. A transaction whose frame or message
a link reset has abandoned while its request waited ends at its grant: nothing read, written or offered; of the two only the
take's is counted, in TX_ABORTED. -/
def Obligations.EntryWriteAndAbandonedWork : Prop :=
  (∀ (s : State) (k : Fin 2) (e : RxEntry), s.exp = .deliver k e →
    ∃ t, exec .rxEntryWrite s = .next t ∧
      t.host = { s.host with rx := s.host.rx ++ [{ e with lostBefore := s.host.lostMark }], lostMark := false } ∧
      t.exp = .idle ∧ t.lrx = { s.lrx with bufs := s.lrx.bufs.set k .empty } ∧ OnlyChanges [.host, .exp, .lrx] s t) ∧
  (∀ (s : State) (w : ExpWork) (i : Instr), s.holds .expander = true → s.exp = .abandonedRunning w →
    ((∃ n h stride p, w = .full n h stride p ∧ i = .expandFull) ∨
      (∃ n d r stride check p, w = .delta n d r stride check p ∧ i = .expandDelta) ∨
      (∃ n check p, w = .brief n check p ∧ i = .expandBrief)) →
    let u := (expanded w s).1
    ∃ t, exec i s = .next t ∧ t.exp = .idle ∧ t.store = u.store ∧ t.stats = u.stats ∧ t.stat = u.stat ∧ t.fbq = u.fbq ∧
      t.arb = u.arb.ended u.store ∧ OnlyChanges [.store, .stats, .stat, .fbq, .exp, .arb] s t) ∧
  (∀ (s : State) (k : Fin 2) (e : FbEntry) (rest : List FbEntry), s.holds .expander = true →
    s.exp = .abandonedRunning (.feedback e rest) →
    let i : Instr := match e.kind with | .ack => .ackApply | .refresh => .refreshApply
    ∃ t u, exec i s = .next t ∧ exec i (s.setExp (.busy k (.feedback e []))) = .next u ∧ t.exp = .idle ∧
      t.store = u.store ∧ t.stats = u.stats ∧ t.stat = u.stat ∧ t.arb = u.arb ∧
      OnlyChanges [.store, .stats, .stat, .exp, .arb] s t) ∧
  (∀ s : State, s.holds .expander = true → s.exp = .abandonedWaiting →
    ∃ t, exec .expanderAbandonedGrant s = .next t ∧ t.exp = .idle ∧ t.arb = s.arb.ended s.store ∧
      OnlyChanges [.exp, .arb] s t) ∧
  ∀ (s : State) (m : Message) (f : TxFormat), s.holds .compressor = true → s.comp.work = .taking m f .discard →
    ∃ t, exec .takeAbandonedGrant s = .next t ∧ t.comp = { s.comp with work := .idle } ∧
      t.ltx = { s.ltx with
        st := if s.ltx.enable then .idle else .disabled, inFlight := none, rest := [], gap := 0 } ∧
      t.stats = s.stats.counted [.txAborted] ∧ t.stat = s.stat.latched [.txAborted] ∧ t.arb = s.arb.ended s.store ∧
      OnlyChanges [.comp, .ltx, .stats, .stat, .arb] s t

/-- The transactions of received ACK and REFRESH entries on the record as the checked read left it (`s1`); the next entry's
transaction is asked for, or the frame's work ends. -/
def Obligations.FeedbackEntriesApplied : Prop :=
  ∀ (s : State) (k : Fin 2) (n : Ctx) (kind : FbKind) (rest : List FbEntry),
    s.holds .expander = true → s.exp = .busy k (.feedback ⟨kind, n⟩ rest) →
    let s1 := readTx .expander n s
    let r := s1.txRec n
    let zeroed : Contents := { r.c with tally := 0 }
    ∃ t, exec (match kind with | .ack => .ackApply | .refresh => .refreshApply) s = .next t ∧
      OnlyChanges [.store, .stats, .stat, .exp, .lrx, .arb] s t ∧
      (rest = [] → t.exp = .idle ∧ t.lrx = { s.lrx with bufs := s.lrx.bufs.set k .empty } ∧
        t.arb = s1.arb.ended s1.store) ∧
      (∀ e es, rest = e :: es → t.exp = .busy k (.feedback e es) ∧ t.lrx = s.lrx ∧
        t.arb = (s1.arb.setWait true .expander).ended s1.store) ∧
      (kind = .ack → t.stats = s1.stats ∧
        (r.st = .opening → t.store = s1.store.withTx n .opened r.c ∧ t.stat = s1.stat.seesTx n .opened r.c) ∧
        (r.st ≠ .opening → t.store = s1.store ∧ t.stat = s1.stat)) ∧
      (kind = .refresh →
        ((r.st = .opened ∨ r.st = .opening) →
          t.store = s1.store.withTx n .refreshing zeroed ∧ t.stat = s1.stat.seesTx n .refreshing zeroed ∧
          t.stats = s1.stats) ∧
        (r.st = .refreshing → t.store = s1.store ∧ t.stat = s1.stat ∧ t.stats = s1.stats) ∧
        ((r.st = .free ∨ r.st = .damaged) →
          t.store = s1.store ∧ t.stat = s1.stat ∧ t.stats = s1.stats.counted [.fbStray]))

/-! ## The Feedback Queue -/

/-- An offer for a number the queue already holds, whatever the size of the queue. -/
def Obligations.CoalescingRules : Prop :=
  ∀ (s : State) (before after : List FbEntry) (old e : FbEntry), s.fbq = before ++ old :: after → old.n = e.n →
    (∀ x ∈ before ++ after, x.n ≠ e.n) →
    (offer e s).stats = s.stats ∧ (offer e s).stat = s.stat ∧
      (old.kind = .ack → e.kind = .ack → (offer e s).fbq = s.fbq) ∧
      (old.kind = .ack → e.kind = .refresh → (offer e s).fbq = before ++ e :: after) ∧
      (old.kind = .refresh → e.kind = .ack → (offer e s).fbq = s.fbq) ∧
      (old.kind = .refresh → e.kind = .refresh → (offer e s).fbq = s.fbq)

/-- An offer for a number the queue does not hold. -/
def Obligations.OverflowRules : Prop :=
  ∀ (s : State) (e : FbEntry), (∀ x ∈ s.fbq, x.n ≠ e.n) →
    (s.fbq.length < 16 →
      (offer e s).fbq = s.fbq ++ [e] ∧ (offer e s).stats = s.stats ∧ (offer e s).stat = s.stat) ∧
    (s.fbq.length = 16 →
      (offer e s).fbq.length = 16 ∧ (offer e s).stats = s.stats.counted [.fbOverflow] ∧
      (offer e s).stat = s.stat.latched [.feedbackOverflow] ∧
      (e.kind = .ack → (offer e s).fbq = s.fbq) ∧
      (∀ before a after, e.kind = .refresh → s.fbq = before ++ a :: after → a.kind = .ack →
        (∀ x ∈ before, x.kind = .refresh) → (offer e s).fbq = before ++ after ++ [e]) ∧
      (e.kind = .refresh → (∀ x ∈ s.fbq, x.kind = .refresh) → (offer e s).fbq = s.fbq))

/-! ## The Line Transmitter and the Compressor -/

/-- A frame starts in IDLE when the gap allows it and CTS does not hold it: a feedback frame, or a message frame. -/
def Obligations.FrameStarts : Prop :=
  ∀ s : State, s.ltx.st = .idle → s.cfg.gap ≤ s.ltx.gap → (s.cfg.ctsCheck = false ∨ s.pins.cts = true) →
    (s.fbq ≠ [] → (s.host.committed = [] ∨ s.ltx.alt = false) →
      ∃ t, exec .nextFrameChoice s = .next t ∧ t.fbq = s.fbq.drop 4 ∧
        t.ltx = { s.ltx with
          st := .frame, inFlight := some ⟨.feedback, none⟩
          rest := lineFrame s.cfg.txFormat (feedbackData (s.fbq.take 4)), alt := !s.host.committed.isEmpty } ∧
        OnlyChanges [.fbq, .ltx] s t) ∧
    (∀ m rest, s.host.committed = m :: rest → (s.fbq = [] ∨ s.ltx.alt = true) →
      ∃ t, exec .nextFrameChoice s = .next t ∧ t.host = { s.host with committed := rest } ∧
        t.ltx = { s.ltx with st := .frame, inFlight := none, rest := [], alt := false } ∧
        t.comp = ⟨.taking m s.cfg.txFormat .send, s.comp.pendingBank.getD s.comp.working, none⟩ ∧
        t.arb = s.arb.asked s.store .compressor ∧ OnlyChanges [.host, .ltx, .comp, .arb] s t)

/-- No frame starts outside IDLE, before the gap has passed or with nothing to send; a start that CTS holds back takes the
transmitter to HELD and nothing else. -/
def Obligations.FrameStartWaits : Prop :=
  ∀ s : State,
    ((s.ltx.st ≠ .idle ∨ s.ltx.gap < s.cfg.gap ∨ (s.fbq = [] ∧ s.host.committed = [])) →
      exec .nextFrameChoice s = .next s) ∧
    (s.ltx.st = .idle → s.cfg.gap ≤ s.ltx.gap → (s.fbq ≠ [] ∨ s.host.committed ≠ []) → s.cfg.ctsCheck = true →
      s.pins.cts = false →
      ∃ t, exec .nextFrameChoice s = .next t ∧ t.ltx = { s.ltx with st := .held } ∧ OnlyChanges [.ltx] s t)

/-- A take whose search finds no match, in a READY store with an empty slot and a free number, opens a context and sends FULL
(`s1`: as the search left the store, the records it read with it). -/
def Obligations.TakeOpensContext : Prop :=
  ∀ (s : State) (m : Message) (f : TxFormat) (n : Ctx) (i : Fin 4),
    s.holds .compressor = true → s.comp.work = .taking m f .send →
    let h := Header.ofBytes m
    let s1 := (search .compressor h.key s).1
    (search .compressor h.key s).2 = none → s1.store.st = .ready → OpensAt s1 h.key.bucket n i →
    ∃ t, exec .take s = .next t ∧ ContextOpened m n i s1 t ∧ t.stats = s1.stats ∧
      TakeSends f .full (some n) (0x01#8 :: n :: (m.take 14 ++ [0, 0] ++ m.drop 14)) s t

/-- The search of a take reads the slots of the key's bucket in order, only records whose signature matches, and ends at the
first that holds the key. A take that finds it sends from its context, as the search left it (`s1`): FULL from an OPENING or
REFRESHING one, from an OPEN one the first of the four frames whose condition holds and whose fields are encodable. -/
def Obligations.TakeSendsFromContext : Prop :=
  (∀ (q : Requester) (k : Key) (s : State), search q k s = searchSlots q k [0, 1, 2, 3] s ∧
    searchSlots q k [] s = (s, none) ∧
    ∀ (i : Fin 4) (is : List (Fin 4)),
      (s.slotAt k.bucket i = none → searchSlots q k (i :: is) s = searchSlots q k is s) ∧
      ∀ sl, s.slotAt k.bucket i = some sl →
        let u := readTx q sl.n s
        (sl.sig ≠ k.signature → searchSlots q k (i :: is) s = searchSlots q k is s) ∧
        (sl.sig = k.signature → (u.txRec sl.n).st.slotted = true → (u.txRec sl.n).c.key = k →
          searchSlots q k (i :: is) s = (u, some sl.n)) ∧
        (sl.sig = k.signature → ((u.txRec sl.n).st.slotted = false ∨ (u.txRec sl.n).c.key ≠ k) →
          searchSlots q k (i :: is) s = searchSlots q k is u)) ∧
  (∀ (k : Bank) (n : Ctx) (c : Contents) (h : Header),
    let d := (h.seq.toNat + 65536 - c.seq.toNat) % 65536
    let step := (h.time.toNat + 4294967296 - c.time.toNat) % 4294967296
    let residual := ((step : Int) - d * c.stride.toNat).bmod 4294967296
    let first := if d = 1 ∧ step = c.stride.toNat then encodeAll [(k.c.table, n.toNat)] else none
    let second := if d = 1 ∧ step ≤ 65535 ∧ step ≠ c.stride.toNat then
        encodeAll [(k.c.table, n.toNat), (k.s.table, 1), (k.t.table, 0), (k.s.table, step)]
      else none
    let third := if 1 ≤ d ∧ d ≤ 32767 ∧ -32768 ≤ residual ∧ residual ≤ 32767 then
        encodeAll [(k.c.table, n.toNat), (k.s.table, d), (k.t.table, zigzag residual)]
      else none
    chooseKind k n c h = match first, second, third with
      | some bits, _, _ => .brief bits
      | none, some bits, _ => .delta (some (BitVec.ofNat 16 step)) bits
      | none, none, some bits => .delta none bits
      | none, none, none => .full) ∧
  ∀ (s : State) (m : Message) (f : TxFormat) (n : Ctx),
    s.holds .compressor = true → s.comp.work = .taking m f .send →
    let h := Header.ofBytes m
    let s1 := (search .compressor h.key s).1
    let st := (s1.txRec n).st
    let c := (s1.txRec n).c
    (search .compressor h.key s).2 = some n →
    let choice := if st = .opened then chooseKind (s.banks.get s.comp.working) n c h else .full
    let moved := fun (v : Half) =>
      ({ c with seq := h.seq, time := h.time, stride := v, age := 0, uses := satInc c.uses } : Contents)
    ∃ t, exec .take s = .next t ∧ t.stats = s1.stats ∧
      (choice = .full →
        let c1 : Contents := { moved c.stride with tally := satInc c.tally }
        let st1 : TxState :=
          if st = .opened ∨ (s.cfg.optimistic ≠ 0 ∧ s.cfg.optimistic ≤ satInc c.tally) then .opened else .opening
        t.store = s1.store.withTx n st1 c1 ∧ t.stat = s1.stat.seesTx n st1 c1 ∧
        TakeSends f .full (some n) (0x01#8 :: n :: (m.take 14 ++ bytes16 c.stride ++ m.drop 14)) s t) ∧
      (∀ v bits, choice = .delta v bits →
        t.store = s1.store.withTx n st (moved (v.getD c.stride)) ∧
        t.stat = s1.stat.seesTx n st (moved (v.getD c.stride)) ∧
        TakeSends f .delta (some n) (codedKindByte .delta s.comp.working v.isSome ::
          (packBits bits ++ (headerCheck h).setWidth 8 :: m.drop 14)) s t) ∧
      (∀ bits, choice = .brief bits →
        t.store = s1.store.withTx n st (moved c.stride) ∧ t.stat = s1.stat.seesTx n st (moved c.stride) ∧
        TakeSends f .brief (some n) (codedKindByte .brief s.comp.working false ::
          (packBits bits ++ (headerCheck h).setWidth 8 :: m.drop 14)) s t)

/-- A take whose search finds no match (`s1`) goes RAW in a DEGRADED store. With no opening possible (no empty slot, or no free
number) it reads the records of the slots whose signature differs, in slot order (`s2`); then it goes RAW if the store is
DEGRADED, opens if an opening has become possible, evicts the unpinned context of greatest age in the lowest slot, or goes
RAW when the bucket has none. -/
def Obligations.TakeEvictsOrGoesRaw : Prop :=
  (∀ (k : Key) (s : State), readCandidates k [] s = s ∧ ∀ (i : Fin 4) (is : List (Fin 4)),
    (s.slotAt k.bucket i = none → readCandidates k (i :: is) s = readCandidates k is s) ∧
    ∀ sl, s.slotAt k.bucket i = some sl →
      (sl.sig = k.signature → readCandidates k (i :: is) s = readCandidates k is s) ∧
      (sl.sig ≠ k.signature → readCandidates k (i :: is) s = readCandidates k is (readTx .compressor sl.n s))) ∧
  ∀ (s : State) (m : Message) (f : TxFormat), s.holds .compressor = true → s.comp.work = .taking m f .send →
    let h := Header.ofBytes m
    let b := h.key.bucket
    let s1 := (search .compressor h.key s).1
    let s2 := readCandidates h.key [0, 1, 2, 3] s1
    (search .compressor h.key s).2 = none →
    (s1.store.st = .degraded →
      ∃ t, exec .take s = .next t ∧ t.store = s1.store ∧ t.stat = s1.stat ∧
        t.stats = s1.stats.counted [.txRawTablefull] ∧ TakeSends f .raw none (0x00#8 :: m) s t) ∧
    (s1.store.st ≠ .degraded → NoOpening s1 b →
      (s2.store.st = .degraded →
        ∃ t, exec .take s = .next t ∧ t.store = s2.store ∧ t.stat = s2.stat ∧
          t.stats = s2.stats.counted [.txRawTablefull] ∧ TakeSends f .raw none (0x00#8 :: m) s t) ∧
      (∀ n i, s2.store.st ≠ .degraded → OpensAt s2 b n i →
        ∃ t, exec .take s = .next t ∧ ContextOpened m n i s2 t ∧ t.stats = s2.stats ∧
          TakeSends f .full (some n) (0x01#8 :: n :: (m.take 14 ++ [0, 0] ++ m.drop 14)) s t) ∧
      (∀ i v, s2.store.st ≠ .degraded → NoOpening s2 b → IsVictim s2 b i v →
        ∃ t, exec .take s = .next t ∧
          t.store = { s2.store.withTx v (openedState s.cfg) (openedContents h) with
            index := s2.store.index.set b.toNat
              ((s2.store.index[b.toNat]'b.isLt).set i (some ⟨v, h.key.signature⟩)) b.isLt } ∧
          t.stat = s2.stat.seesTx v (openedState s.cfg) (openedContents h) ∧
          t.stats = s2.stats.counted [.txEvict] ∧
          TakeSends f .full (some v) (0x01#8 :: v :: (m.take 14 ++ [0, 0] ++ m.drop 14)) s t) ∧
      (s2.store.st ≠ .degraded → NoOpening s2 b →
        (∀ j sl, s2.slotAt b j = some sl → (s2.txRec sl.n).c.pinned = true) →
        ∃ t, exec .take s = .next t ∧ t.store = s2.store ∧ t.stat = s2.stat ∧
          t.stats = s2.stats.counted [.txRawTablefull] ∧ TakeSends f .raw none (0x00#8 :: m) s t))

/-- The end of a frame: it is counted once, and the transmitter is IDLE with gap 0. That every byte still to send goes out in
this one row is the model's choice (log 6). With CTS checking set and CTS negated the row is a byte slot in which the frame is
abandoned, and it is not counted as sent (log 21, DEDUCED). -/
def Obligations.FrameSentIsCounted : Prop :=
  ∀ s : State, s.ltx.st = .frame →
    let passes := s.cfg.ctsCheck = false ∨ s.pins.cts = true
    let sent := { s.ltx with st := .idle, inFlight := none, rest := [], gap := 0 }
    (s.ltx.inFlight = some ⟨.feedback, none⟩ → passes →
      ∃ t, exec .feedbackFrameSent s = .next t ∧ t.pins = { s.pins with txd := s.ltx.rest } ∧ t.ltx = sent ∧
        t.stats = s.stats.counted [.fbSent] ∧ OnlyChanges [.pins, .ltx, .stats] s t) ∧
    (∀ fl, s.ltx.inFlight = some fl → s.comp.work = .sending → fl.kind ≠ .feedback → passes →
      ∃ t, exec .messageFrameSent s = .next t ∧ t.pins = { s.pins with txd := s.ltx.rest } ∧ t.ltx = sent ∧
        t.comp = { s.comp with work := .idle } ∧
        t.stats = s.stats.counted
          [match fl.kind with | .raw => .txRaw | .full => .txFull | .delta => .txDelta | .brief => .txBrief
                              | .feedback => .fbSent] ∧
        OnlyChanges [.pins, .ltx, .comp, .stats] s t) ∧
    (s.ltx.inFlight = some ⟨.feedback, none⟩ → s.comp.work = .idle → ¬ passes →
      ∃ t, exec .feedbackFrameSent s = .next t ∧ AbandonedInSlot ⟨.feedback, none⟩ s t) ∧
    (∀ fl, s.ltx.inFlight = some fl → s.comp.work = .sending → ¬ passes →
      ∃ t, exec .messageFrameSent s = .next t ∧ AbandonedInSlot fl s t)

/-- CTS negated, CTS checking clear, outside FRAME, or with a frame that is abandoned already: only the pin changes. With a frame
in flight it is abandoned: a frame with a context number draws the abort request, another ends at once, a take runs on and its
frame will not be sent. CTS asserted ends HELD. -/
def Obligations.CtsChanges : Prop :=
  ∀ s : State,
    ((s.cfg.ctsCheck = false ∨ s.ltx.st ≠ .frame ∨ (∃ n, s.comp.work = .aborting n) ∨
        ∃ m f fate, s.comp.work = .taking m f fate ∧ fate ≠ .send) →
      ∃ t, exec .ctsNegated s = .next t ∧ t.pins = { s.pins with cts := false } ∧ OnlyChanges [.pins] s t) ∧
    (∀ fl, s.cfg.ctsCheck = true → s.ltx.st = .frame → s.ltx.inFlight = some fl →
      (s.comp.work = .sending ∨ s.comp.work = .idle) →
      ∃ t, exec .ctsNegated s = .next t ∧ t.pins = { s.pins with cts := false } ∧
        t.stats = s.stats.counted [.txAborted] ∧ t.stat = s.stat.latched [.txAborted] ∧
        OnlyChanges [.pins, .ltx, .comp, .stats, .stat, .arb] s t ∧
        (∀ n, fl.n = some n →
          t.comp = { s.comp with work := .aborting n } ∧ t.arb = s.arb.asked s.store .compressor ∧
          t.ltx = { s.ltx with inFlight := none, rest := [], gap := 0 }) ∧
        (fl.n = none →
          t.comp = { s.comp with work := .idle } ∧ t.arb = s.arb ∧
          t.ltx = { s.ltx with
            st := if s.ltx.enable then .idle else .disabled, inFlight := none, rest := [], gap := 0 })) ∧
    (∀ m f, s.cfg.ctsCheck = true → s.ltx.st = .frame → s.comp.work = .taking m f .send →
      ∃ t, exec .ctsNegated s = .next t ∧ t.pins = { s.pins with cts := false } ∧
        t.comp = { s.comp with work := .taking m f .abandon } ∧ OnlyChanges [.pins, .comp] s t) ∧
    ∃ t, exec .ctsAsserted s = .next t ∧ t.pins = { s.pins with cts := true } ∧
      t.ltx = { s.ltx with st := if s.ltx.st = .held then .idle else s.ltx.st } ∧ OnlyChanges [.pins, .ltx] s t

/-- A take whose frame is abandoned keeps its writes and counts, is counted in TX_ABORTED when it ends and draws the abort
request when its frame names a context; the abort request makes an OPEN or OPENING context REFRESHING. -/
def Obligations.AbandonedFrameIsAnswered : Prop :=
  (∀ (s : State) (m : Message) (f : TxFormat), s.holds .compressor = true → s.comp.work = .taking m f .abandon →
    let r := takeMessage m s
    ∃ t, exec .take s = .next t ∧ t.store = r.1.store ∧ t.stats = r.1.stats.counted [.txAborted] ∧
      t.stat = r.1.stat.latched [.txAborted] ∧ OnlyChanges [.store, .stats, .stat, .comp, .ltx, .arb] s t ∧
      (∀ n, r.2.n = some n →
        t.comp = { s.comp with work := .aborting n } ∧
        t.ltx = { s.ltx with inFlight := none, rest := [], gap := 0 } ∧
        t.arb = (r.1.arb.ended r.1.store).asked r.1.store .compressor) ∧
      (r.2.n = none →
        t.comp = { s.comp with work := .idle } ∧ t.arb = r.1.arb.ended r.1.store ∧
        t.ltx = { s.ltx with
          st := if s.ltx.enable then .idle else .disabled, inFlight := none, rest := [], gap := 0 })) ∧
  ∀ (s : State) (n : Ctx), s.holds .compressor = true → s.comp.work = .aborting n →
    let s1 := readTx .compressor n s
    let r := s1.txRec n
    let c : Contents := { r.c with tally := 0 }
    ∃ t, exec .abortRequest s = .next t ∧ t.comp = { s.comp with work := .idle } ∧ t.stats = s1.stats ∧
      t.ltx = { s.ltx with st := if s.ltx.enable then .idle else .disabled, inFlight := none, rest := [] } ∧
      t.arb = s1.arb.ended s1.store ∧ OnlyChanges [.store, .stats, .stat, .comp, .ltx, .arb] s t ∧
      ((r.st = .opened ∨ r.st = .opening) →
        t.store = s1.store.withTx n .refreshing c ∧ t.stat = s1.stat.seesTx n .refreshing c) ∧
      (r.st ≠ .opened → r.st ≠ .opening → t.store = s1.store ∧ t.stat = s1.stat)

/-- The two line enables; clearing the transmit enable abandons a frame, as CTS does, also one whose take waits or runs. -/
def Obligations.LineEnables : Prop :=
  ∀ s : State, HostOpen s →
    (∃ t, exec (.transmitEnable true) s = .next t ∧ OnlyChanges [.ltx] s t ∧
      t.ltx = if s.ltx.st = .disabled ∧ s.store.st ≠ .starting then
          { s.ltx with enable := true, st := .idle, gap := 0, alt := false }
        else { s.ltx with enable := true }) ∧
    (s.ltx.st ≠ .frame →
      ∃ t, exec (.transmitEnable false) s = .next t ∧ t.ltx = { s.ltx with enable := false, st := .disabled } ∧
        OnlyChanges [.ltx] s t) ∧
    (∀ fl, s.ltx.st = .frame → s.ltx.inFlight = some fl → (s.comp.work = .sending ∨ s.comp.work = .idle) →
      ∃ t, exec (.transmitEnable false) s = .next t ∧
        t.stats = s.stats.counted [.txAborted] ∧ t.stat = s.stat.latched [.txAborted] ∧
        OnlyChanges [.ltx, .comp, .stats, .stat, .arb] s t ∧
        (∀ n, fl.n = some n → t.comp = { s.comp with work := .aborting n } ∧
          t.arb = s.arb.asked s.store .compressor ∧
          t.ltx = { s.ltx with enable := false, inFlight := none, rest := [], gap := 0 }) ∧
        (fl.n = none → t.comp = { s.comp with work := .idle } ∧ t.arb = s.arb ∧
          t.ltx = { s.ltx with enable := false, st := .disabled, inFlight := none, rest := [], gap := 0 })) ∧
    (∀ m f fate, s.ltx.st = .frame → s.comp.work = .taking m f fate →
      ∃ t, exec (.transmitEnable false) s = .next t ∧ t.ltx = { s.ltx with enable := false } ∧
        t.comp = { s.comp with work := .taking m f (if fate = .send then .abandon else fate) } ∧
        OnlyChanges [.ltx, .comp] s t) ∧
    (∀ n, s.ltx.st = .frame → s.comp.work = .aborting n →
      ∃ t, exec (.transmitEnable false) s = .next t ∧ t.ltx = { s.ltx with enable := false } ∧
        OnlyChanges [.ltx] s t) ∧
    (∃ t, exec (.receiveEnable true) s = .next t ∧ OnlyChanges [.lrx] s t ∧
      t.lrx = if s.lrx.st = .disabled ∧ s.store.st ≠ .starting then { s.lrx with enable := true, st := .hunt [] }
        else { s.lrx with enable := true }) ∧
    ∃ t, exec (.receiveEnable false) s = .next t ∧ OnlyChanges [.lrx] s t ∧
      t.lrx = { s.lrx with
        enable := false, st := .disabled
        bufs := match s.lrx.st with
          | .frame _ _ k _ _ => s.lrx.bufs.set k .empty
          | _ => s.lrx.bufs }

/-- A byte slot of the transmit clock: one bits, idle fill with the gap counter, idle fill in FRAME with no byte to send; that a
slot in FRAME sends the next byte of the frame, and leaves the last one to the frame-sent rows, is the model's choice (log 6).
With CTS checking set and CTS negated a slot in FRAME abandons the frame first, also one whose take waits or runs (log 21,
DEDUCED). -/
def Obligations.ByteSlots : Prop :=
  ∀ s : State,
    let passes := s.cfg.ctsCheck = false ∨ s.pins.cts = true
    (s.ltx.st = .disabled →
      ∃ t, exec .idleFillByte s = .next t ∧ t.pins = { s.pins with txd := [0xFF#8] } ∧ OnlyChanges [.pins] s t) ∧
    ((s.ltx.st = .idle ∨ s.ltx.st = .held) →
      ∃ t, exec .idleFillByte s = .next t ∧ t.pins = { s.pins with txd := [s.cfg.idleFill] } ∧
        t.ltx = { s.ltx with gap := if s.ltx.gap = 15 then 15 else s.ltx.gap + 1 } ∧ OnlyChanges [.pins, .ltx] s t) ∧
    (s.ltx.st = .frame → s.ltx.rest = [] →
      (passes ∨ (∃ n, s.comp.work = .aborting n) ∨ ∃ m f fate, s.comp.work = .taking m f fate ∧ fate ≠ .send) →
      ∃ t, exec .idleFillByte s = .next t ∧ t.pins = { s.pins with txd := [s.cfg.idleFill] } ∧ OnlyChanges [.pins] s t) ∧
    (∀ x, s.ltx.st = .frame → s.ltx.rest = [x] → passes → exec .idleFillByte s = .next s) ∧
    (∀ x y bs, s.ltx.st = .frame → s.ltx.rest = x :: y :: bs → passes →
      ∃ t, exec .idleFillByte s = .next t ∧ t.pins = { s.pins with txd := [x] } ∧
        t.ltx = { s.ltx with rest := y :: bs } ∧ OnlyChanges [.pins, .ltx] s t) ∧
    (∀ fl, s.ltx.st = .frame → s.ltx.inFlight = some fl → (s.comp.work = .sending ∨ s.comp.work = .idle) → ¬ passes →
      ∃ t, exec .idleFillByte s = .next t ∧ AbandonedInSlot fl s t) ∧
    ∀ m f, s.ltx.st = .frame → s.ltx.rest = [] → s.comp.work = .taking m f .send → ¬ passes →
      ∃ t, exec .idleFillByte s = .next t ∧ t.pins = { s.pins with txd := [s.cfg.idleFill] } ∧
        t.comp = { s.comp with work := .taking m f .abandon } ∧ OnlyChanges [.pins, .comp] s t

/-! ## Time -/

/-- The count of the Interval Timer and the host's actions on it. -/
def Obligations.TimerCounts : Prop :=
  ∀ s : State,
    (s.timer.run = true → s.timer.count ≠ 0xFFFFFFFF#32 →
      ∃ t, exec .trefTick s = .next t ∧ t.timer = { s.timer with count := s.timer.count + 1 } ∧ OnlyChanges [.timer] s t) ∧
    (s.timer.run = false → exec .trefTick s = .next s ∧ exec .timerOverflow s = .next s) ∧
    (HostOpen s → s.timer.run = false → s.timer.count ≠ 0xFFFFFFFF#32 →
      ∃ t, exec .singleIncrement s = .next t ∧ t.timer = { s.timer with count := s.timer.count + 1 } ∧
        OnlyChanges [.timer] s t) ∧
    (s.timer.run = true → exec .singleIncrement s = .next s) ∧
    (HostOpen s → ∃ t, exec .timerTransfer s = .next t ∧ t.timer = { s.timer with count := s.timer.reload } ∧
      OnlyChanges [.timer] s t) ∧
    ∀ on, HostOpen s → ∃ t, exec (.timerRun on) s = .next t ∧ t.timer = { s.timer with run := on } ∧ OnlyChanges [.timer] s t

/-- An overflow: the count takes the reload value and one period reaches, in the same step, the Age Sweep, the boundary counter
(with the boundary when it reaches S) and the silence counter (with the alarm when it reaches T_silent). The model's choices:
a sweep overrun is counted before the boundary (log 7), and a boundary counter that is not 0 becomes 0 at a period with S at 0
(log 16, DEDUCED). -/
def Obligations.PeriodReachesItsBlocks : Prop :=
  ∀ (s : State) (i : Instr), s.timer.count = 0xFFFFFFFF#32 →
    ((s.timer.run = true ∧ (i = .timerOverflow ∨ i = .trefTick)) ∨
      (HostOpen s ∧ s.timer.run = false ∧ i = .singleIncrement)) →
    let overrun := s.sweep.idx.isSome && decide (s.sweep.pend = 3)
    let counted := s.stats.counted (if overrun then [.sweepOverrun] else [])
    let reached := decide (s.cfg.statLimit ≠ 0 ∧ s.cfg.statLimit.toNat ≤ s.stats.boundary.toNat + 1)
    let silent := decide (s.lrx.st ≠ .disabled ∧ s.cfg.tSilent ≠ 0 ∧ s.stat.silent.live = false ∧
      s.cfg.tSilent ≤ satInc s.lrx.silence)
    ∃ t, exec i s = .next t ∧ t.timer = { s.timer with count := s.timer.reload } ∧
      OnlyChanges [.timer, .sweep, .arb, .stats, .stat, .lrx, .store] s t ∧
      (s.sweep.idx = none → t.sweep = { s.sweep with idx := some 0 } ∧ t.arb = s.arb.asked s.store .sweep) ∧
      (∀ j, s.sweep.idx = some j → t.arb = s.arb ∧
        t.sweep = { s.sweep with pend := if s.sweep.pend = 3 then 3 else s.sweep.pend + 1 }) ∧
      (reached = true → t.stats = { s.stats with snap := counted.live, live := Vector.replicate 30 0, boundary := 0 } ∧
        t.store = { s.store with uncorr := 0 }) ∧
      (reached = false → t.store = s.store ∧
        t.stats = { counted with boundary := if s.cfg.statLimit = 0 then 0 else s.stats.boundary + 1 }) ∧
      t.stat =
        { s.stat.latched ((if overrun then [.sweepOverrun] else []) ++ if reached then [.period] else []) with
          silent := if silent then ⟨true, true⟩ else s.stat.silent } ∧
      t.lrx = if s.lrx.st = .disabled then s.lrx else { s.lrx with silence := satInc s.lrx.silence }

/-- LINE_SILENT and STATISTICS_BOUNDARY are the overflowing tick that brings the counter to its limit, and nothing at any other
moment (the model's choice, log 7): LINE_SILENT is that tick as TIMER_OVERFLOW takes it; STATISTICS_BOUNDARY differs from it
in the order R152 leaves open, since the boundary comes before a sweep overrun is counted. SNAPSHOT causes a boundary at the
command. -/
def Obligations.SilenceAndBoundaries : Prop :=
  ∀ s : State,
    let overflows := s.timer.run = true ∧ s.timer.count = 0xFFFFFFFF#32
    let reached := s.cfg.statLimit ≠ 0 ∧ s.cfg.statLimit.toNat ≤ s.stats.boundary.toNat + 1
    let silent := s.lrx.st ≠ .disabled ∧ s.cfg.tSilent ≠ 0 ∧ s.stat.silent.live = false ∧
      s.cfg.tSilent ≤ satInc s.lrx.silence
    let overrun := s.sweep.idx.isSome && decide (s.sweep.pend = 3)
    (overflows → silent →
      ∃ t, exec .lineSilent s = .next t ∧ exec .timerOverflow s = .next t ∧ t.stat.silent = ⟨true, true⟩ ∧
        t.lrx = { s.lrx with silence := satInc s.lrx.silence }) ∧
    (¬ (overflows ∧ silent) → exec .lineSilent s = .next s) ∧
    (overflows → reached →
      ∃ t u, exec .statisticsBoundary s = .next t ∧ exec .timerOverflow s = .next u ∧
        t.stats = Stats.counted (if overrun then [.sweepOverrun] else [])
          { s.stats with snap := s.stats.live, live := Vector.replicate 30 0, boundary := 0 } ∧
        t.eventSet .period = true ∧ t.store = { s.store with uncorr := 0 } ∧
        ∀ b, b ≠ .stats → agreeOn b u t) ∧
    (¬ (overflows ∧ reached) → exec .statisticsBoundary s = .next s) ∧
    (TakesCommands s →
      ∃ t, exec .snapshot s = .next t ∧
        t.stats = { s.stats with snap := s.stats.live, live := Vector.replicate 30 0, boundary := 0 } ∧
        t.store = { s.store with uncorr := 0 } ∧ t.stat = s.stat.latched [.period, .commandDone] ∧
        t.cu = { s.cu with result := .ok, refusal := .ok } ∧ OnlyChanges [.stats, .store, .stat, .cu] s t)

/-- One visit of the Age Sweep, on the record as the checked read left it (`s1`), and the index and request after it. -/
def Obligations.SweepVisits : Prop :=
  ∀ (s : State) (i : BitVec 9) (n : Ctx), s.holds .sweep = true → s.sweep.idx = some i →
    ∃ t, exec .sweepVisit s = .next t ∧ OnlyChanges [.store, .stats, .stat, .fbq, .sweep, .arb] s t ∧
      t.sweep = (if i = 511 then
          if s.sweep.pend = 0 then { s.sweep with idx := none } else ⟨some 0, s.sweep.pend - 1⟩
        else { s.sweep with idx := some (i + 1) }) ∧
      (i.toNat = n.toNat →
        let s1 := readRx .sweep n s
        let r := s1.rxRec n
        let c : Contents := { r.c with age := satInc r.c.age }
        let due := r.c.pinned = false ∧ s.cfg.rxIdle ≠ 0 ∧ s.cfg.rxIdle ≤ c.age
        t.arb = (s1.arb.setWait true .sweep).ended s1.store ∧
        ((r.st = .free ∨ r.st = .damaged) →
          t.store = s1.store ∧ t.stats = s1.stats ∧ t.stat = s1.stat ∧ t.fbq = s.fbq) ∧
        ((r.st = .live ∨ r.st = .suspect ∨ r.st = .lost) → due →
          t.store = s1.store.withRx n .free .zero ∧ t.stats = s1.stats.counted [.ctxAged] ∧
          t.stat = s1.stat.seesRx n .free .zero ∧ t.fbq = s.fbq.filter fun x => !(x.kind = .ack && x.n = n)) ∧
        ((r.st = .live ∨ r.st = .suspect) → ¬ due →
          t.store = s1.store.withRx n r.st c ∧ t.stats = s1.stats ∧ t.stat = s1.stat.seesRx n r.st c ∧ t.fbq = s.fbq) ∧
        (r.st = .lost → ¬ due →
          t.store = s1.store.withRx n .lost c ∧ t.stats = s1.stats.counted (overflowCount s.fbq ⟨.refresh, n⟩) ∧
          t.stat = (s1.stat.seesRx n .lost c).latched (overflowEvent s.fbq ⟨.refresh, n⟩) ∧
          t.fbq = (offerTo s.fbq ⟨.refresh, n⟩).1)) ∧
      (i.toNat = n.toNat + 256 →
        let s1 := readTx .sweep n s
        let r := s1.txRec n
        let c : Contents := { r.c with age := satInc r.c.age }
        let due := r.c.pinned = false ∧ s.cfg.txIdle ≠ 0 ∧ s.cfg.txIdle ≤ c.age
        t.fbq = s.fbq ∧
        t.arb = (if i = 511 ∧ s.sweep.pend = 0 then s1.arb else s1.arb.setWait true .sweep).ended s1.store ∧
        (r.st.slotted = false → t.store = s1.store ∧ t.stats = s1.stats ∧ t.stat = s1.stat) ∧
        (r.st.slotted = true → due →
          t.store = (freeTxRecord n s1).store ∧ t.txRec n = ⟨.free, .zero, []⟩ ∧ t.refOf n = none ∧ t.isFree n = true ∧
          (∀ ref, s1.refOf n = some ref → t.slotAt ref.bucket ref.slot = none) ∧
          t.stats = s1.stats.counted [.ctxAged] ∧ t.stat = s1.stat.seesTx n .free .zero) ∧
        (r.st.slotted = true → ¬ due →
          t.store = s1.store.withTx n r.st c ∧ t.stats = s1.stats ∧ t.stat = s1.stat.seesTx n r.st c))

/-! ## The Context Store -/

/-- Stored bits change, in either direction (the contents stand as they were written: log 8, DEDUCED), and are found at the next
checked read by any requester: nothing changed, one bit corrected, two or more uncorrectable, with the counts, the event, the
error capture, the store state and the DEGRADED alarm. A read leaves every other record, slot, reference and free flag as it
is, but for the slot and the reference of a transmit context that becomes DAMAGED. -/
def Obligations.CheckedReads : Prop :=
  (∀ (s : State) (n : Ctx) (bits : List Nat),
    (∃ t, exec (.storageError .receive n bits) s = .next t ∧ OnlyChanges [.store] s t ∧
      t.store = { s.store with rx := t.store.rx } ∧ (∀ k, k ≠ n → t.rxRec k = s.rxRec k) ∧
      (t.rxRec n).st = (s.rxRec n).st ∧ (t.rxRec n).c = (s.rxRec n).c ∧
      (bits.Nodup → (s.rxRec n).flips = [] → (t.rxRec n).flips.length = bits.length)) ∧
    ∃ t, exec (.storageError .transmit n bits) s = .next t ∧ OnlyChanges [.store] s t ∧
      t.store = { s.store with tx := t.store.tx } ∧ (∀ k, k ≠ n → t.txRec k = s.txRec k) ∧
      (t.txRec n).st = (s.txRec n).st ∧ (t.txRec n).c = (s.txRec n).c ∧
      (bits.Nodup → (s.txRec n).flips = [] → (t.txRec n).flips.length = bits.length)) ∧
  ∀ (s : State) (n : Ctx) (q : Requester),
    let held := s.store.capture.any (·.uncorrected)
    let atLimit := decide (s.cfg.degThreshold ≠ 0 ∧ s.cfg.degThreshold ≤ satInc s.store.uncorr)
    let degrades := decide (s.store.st = .ready) && (held || atLimit)
    let corrected := fun (d : Dir) (u : Store) =>
      { u with capture := s.store.capture.or (some ⟨false, d, n, q⟩), lost := s.store.lost || s.store.capture.isSome }
    let uncorrected := fun (d : Dir) (u : Store) =>
      { u with
        uncorr := satInc s.store.uncorr
        st := if degrades then .degraded else s.store.st
        capture := if held then s.store.capture else some ⟨true, d, n, q⟩
        lost := s.store.lost || s.store.capture.isSome }
    let alarmed := fun (u : StatusUnit) =>
      { u.latched [.eccUncorrected] with
        degraded := if degrades && !s.stat.degraded.live then ⟨true, true⟩ else s.stat.degraded }
    (∀ st c, s.rxRec n = ⟨st, c, []⟩ → readRx q n s = s.setStat (s.stat.seesRx n st c)) ∧
    (∀ st c b, s.rxRec n = ⟨st, c, [b]⟩ →
      let t := readRx q n s
      t.store = corrected .receive (s.store.withRx n st c) ∧ t.stats = s.stats.counted [.eccCorr] ∧
      t.stat = (s.stat.seesRx n st c).latched [.eccCorrected] ∧ OnlyChanges [.store, .stats, .stat] s t) ∧
    (∀ st c bits, s.rxRec n = ⟨st, c, bits⟩ → 2 ≤ bits.length →
      let t := readRx q n s
      let st1 : RxState := if st = .free then .free else .damaged
      t.store = uncorrected .receive (s.store.withRx n st1 .zero) ∧ t.stats = s.stats.counted [.eccUncorr] ∧
      t.stat = alarmed (s.stat.seesRx n st1 .zero) ∧ OnlyChanges [.store, .stats, .stat] s t) ∧
    (∀ st c, s.txRec n = ⟨st, c, []⟩ → readTx q n s = s.setStat (s.stat.seesTx n st c)) ∧
    (∀ st c b, s.txRec n = ⟨st, c, [b]⟩ →
      let t := readTx q n s
      t.store = corrected .transmit (s.store.withTx n st c) ∧ t.stats = s.stats.counted [.eccCorr] ∧
      t.stat = (s.stat.seesTx n st c).latched [.eccCorrected] ∧ OnlyChanges [.store, .stats, .stat] s t) ∧
    ∀ st c bits, s.txRec n = ⟨st, c, bits⟩ → 2 ≤ bits.length →
      let t := readTx q n s
      let st1 : TxState := if st = .free then .free else .damaged
      t.store = uncorrected .transmit
        { s.store.withTx n st1 .zero with index := t.store.index, refs := t.store.refs } ∧
      (st.slotted = false → t.store.index = s.store.index ∧ t.store.refs = s.store.refs) ∧
      (st.slotted = true → t.refOf n = none ∧ (∀ k, k ≠ n → t.refOf k = s.refOf k) ∧
        ∀ b i, t.slotAt b i = if s.refOf n = some ⟨b, i⟩ then none else s.slotAt b i) ∧
      t.stats = s.stats.counted [.eccUncorr] ∧ t.stat = alarmed (s.stat.seesTx n st1 .zero) ∧
      OnlyChanges [.store, .stats, .stat] s t

/-- The arbiter grants nothing during a transaction or while the store is STARTING; otherwise the first waiting requester of the
ring Expander, Compressor, Command Unit, Age Sweep, counting from the one after the last granted, the Age Sweep after a device
reset. At a grant it records whether the error capture holds an uncorrected error (`tested`, log 26). -/
def Obligations.ArbiterGrantsInRingOrder : Prop :=
  State.reset.arb.last = .sweep ∧
  (∀ (s : State) (q : Requester),
    (s.store.st = .starting → (request q s).arb = s.arb.setWait true q ∧
      (endTransaction s).arb = { s.arb with granted := none }) ∧
    (s.store.st ≠ .starting → (request q s).arb = (s.arb.setWait true q).grant s.store.heldUncorrected ∧
      (endTransaction s).arb = { s.arb with granted := none }.grant s.store.heldUncorrected) ∧
    (s.store.heldUncorrected = true ↔ ∃ k, s.store.capture = some k ∧ k.uncorrected = true)) ∧
  ∀ (a : Arbiter) (held : Bool),
    (a.granted ≠ none → a.grant held = a) ∧
    (a.granted = none → (∀ q, a.waits q = false) → a.grant held = a) ∧
    (a.granted = none → ∀ q, a.waits q = true →
      (∀ p, a.waits p = true → (q.code - a.last.code - 1) ≤ (p.code - a.last.code - 1)) →
      a.grant held = { a.setWait false q with granted := some q, last := q, tested := held }) ∧
    (a.granted = none → (∃ q, a.waits q = true) → ∃ q, a.waits q = true ∧ (a.grant held).granted = some q)

/-- The end of the start-up walk: the store is READY, the enabled line sides run, the arbiter grants. -/
def Obligations.StartupWalkEnds : Prop :=
  ∀ s : State, s.store.st = .starting →
    ∃ t, exec .startupWalkEnd s = .next t ∧ t.store = { s.store with st := .ready } ∧
      t.arb = s.arb.grant s.store.heldUncorrected ∧
      t.lrx = (if s.lrx.enable = true ∧ s.lrx.st = .disabled then { s.lrx with st := .hunt [] } else s.lrx) ∧
      t.ltx = (if s.ltx.enable = true ∧ s.ltx.st = .disabled then { s.ltx with st := .idle, gap := 0, alt := false }
        else s.ltx) ∧
      OnlyChanges [.store, .arb, .lrx, .ltx] s t

/-! ## The Command Unit -/

/-- READ_RX and READ_TX: accepted, and their transactions, which fill the window from the record as the checked read left it
(`s1`). The state codes are those of the record window's table, which the context monitor shows as well. -/
def Obligations.ReadCommands : Prop :=
  let rxCode := fun st : RxState =>
    (match st with | .free => 0 | .live => 1 | .suspect => 2 | .lost => 3 | .damaged => 7 : BitVec 3)
  let txCode := fun st : TxState =>
    (match st with | .free => 0 | .opening => 1 | .opened => 2 | .refreshing => 3 | .damaged => 7 : BitVec 3)
  (∀ st, RxState.code st = rxCode st) ∧ (∀ st, TxState.code st = txCode st) ∧
  (∀ s : State, TakesCommands s →
    (∃ t, exec .readRx s = .next t ∧ t.cu = { s.cu with st := .busy .readRx s.cu.argN s.cu.argDir, refusal := .ok } ∧
      t.arb = s.arb.asked s.store .command ∧ OnlyChanges [.cu, .arb] s t) ∧
    ∃ t, exec .readTx s = .next t ∧ t.cu = { s.cu with st := .busy .readTx s.cu.argN s.cu.argDir, refusal := .ok } ∧
      t.arb = s.arb.asked s.store .command ∧ OnlyChanges [.cu, .arb] s t) ∧
  (∀ (s : State) (n : Ctx) (d : Dir), s.holds .command = true → s.cu.st = .busy .readRx n d →
    let s1 := readRx .command n s
    let c := (s1.rxRec n).c
    ∃ t, exec .commandTransaction s = .next t ∧
      t.cu = { s.cu with st := .idle, result := .ok, window := t.cu.window } ∧
      t.cu.window[0] = place 0 (rxCode (s1.rxRec n).st) ||| placeBit 3 c.pinned ||| place 4 c.tally ||| place 8 c.age |||
        place 24 n ∧
      t.cu.window[1] = c.key.origin ++ c.key.target ∧
      t.cu.window[2] = c.key.service ++ c.key.cls ++ c.key.route ++ 0#8 ∧ t.cu.window[3] = c.seq ++ c.stride ∧
      t.cu.window[4] = c.time ∧ t.cu.window[5] = 0#16 ++ c.uses ∧
      t.cu.window[6] = 0#16 ++ c.key.signature ++ 0#2 ++ c.key.bucket ∧ t.cu.window[7] = 0 ∧
      t.stat = s1.stat.latched [.commandDone] ∧ t.store = s1.store ∧ t.stats = s1.stats ∧
      t.arb = s1.arb.ended s1.store ∧ OnlyChanges [.cu, .stat, .store, .stats, .arb] s t) ∧
  ∀ (s : State) (n : Ctx) (d : Dir), s.holds .command = true → s.cu.st = .busy .readTx n d →
    let s1 := readTx .command n s
    let c := (s1.txRec n).c
    ∃ t, exec .commandTransaction s = .next t ∧
      t.cu = { s.cu with st := .idle, result := .ok, window := t.cu.window } ∧
      t.cu.window[0] = place 0 (txCode (s1.txRec n).st) ||| placeBit 3 c.pinned ||| place 4 c.tally ||| place 8 c.age |||
        place 24 n ∧
      t.cu.window[1] = c.key.origin ++ c.key.target ∧
      t.cu.window[2] = c.key.service ++ c.key.cls ++ c.key.route ++ 0#8 ∧ t.cu.window[3] = c.seq ++ c.stride ∧
      t.cu.window[4] = c.time ∧ t.cu.window[5] = 0#16 ++ c.uses ∧
      t.cu.window[6] = 0#16 ++ c.key.signature ++ 0#2 ++ c.key.bucket ∧
      ((s1.txRec n).st.slotted = false → t.cu.window[7] = 0) ∧
      (∀ ref, (s1.txRec n).st.slotted = true → s1.refOf n = some ref →
        t.cu.window[7] = BitVec.ofNat 32 (256 + ref.slot.val)) ∧
      t.stat = s1.stat.latched [.commandDone] ∧ t.store = s1.store ∧ t.stats = s1.stats ∧
      t.arb = s1.arb.ended s1.store ∧ OnlyChanges [.cu, .stat, .store, .stats, .arb] s t

/-- LOAD_RX, RETIRE_RX and RETIRE_TX: which windows are loadable and as what record; accepted (LOAD_RX with a loadable window,
else BAD_RECORD at once, the refusal field set to OK: log 23, DEDUCED), and their transactions. -/
def Obligations.LoadRxAndRetire : Prop :=
  (∀ w : Vector Word 8,
    let c : Contents :=
      { key := ⟨w[1].extractLsb' 16 16, w[1].extractLsb' 0 16, w[2].extractLsb' 24 8, w[2].extractLsb' 16 8,
          w[2].extractLsb' 8 8⟩
        seq := w[3].extractLsb' 16 16, stride := w[3].extractLsb' 0 16, time := w[4]
        tally := w[0].extractLsb' 4 3, age := w[0].extractLsb' 8 8, pinned := w[0].getLsbD 3
        uses := w[5].extractLsb' 0 16 }
    let code := (w[0].extractLsb' 0 3).toNat
    windowRx w =
      if code = 0 ∧ c.tally = 0 ∧ c.pinned = false then some (.free, .zero)
      else if code = 1 ∧ c.tally = 0 then some (.live, c)
      else if code = 2 ∧ 1 ≤ c.tally.toNat ∧ c.tally.toNat ≤ 6 then some (.suspect, c)
      else if code = 3 ∧ c.tally = 0 then some (.lost, c)
      else none) ∧
  (∀ s : State, TakesCommands s →
    ((windowRx s.cu.window).isSome = true →
      ∃ t, exec .loadRx s = .next t ∧ t.cu = { s.cu with st := .busy .loadRx s.cu.argN s.cu.argDir, refusal := .ok } ∧
        t.arb = s.arb.asked s.store .command ∧ OnlyChanges [.cu, .arb] s t) ∧
    (windowRx s.cu.window = none →
      ∃ t, exec .loadRx s = .next t ∧ t.cu = { s.cu with result := .badRecord, refusal := .ok } ∧
        t.stat = s.stat.latched [.commandDone] ∧ OnlyChanges [.cu, .stat] s t) ∧
    (∃ t, exec .retireRx s = .next t ∧ t.cu = { s.cu with st := .busy .retireRx s.cu.argN s.cu.argDir, refusal := .ok } ∧
      t.arb = s.arb.asked s.store .command ∧ OnlyChanges [.cu, .arb] s t) ∧
    ∃ t, exec .retireTx s = .next t ∧ t.cu = { s.cu with st := .busy .retireTx s.cu.argN s.cu.argDir, refusal := .ok } ∧
      t.arb = s.arb.asked s.store .command ∧ OnlyChanges [.cu, .arb] s t) ∧
  ∀ (s : State) (n : Ctx) (d : Dir), s.holds .command = true →
    let done := { s.cu with st := .idle, result := .ok }
    (∀ st c, s.cu.st = .busy .loadRx n d → windowRx s.cu.window = some (st, c) →
      ∃ t, exec .commandTransaction s = .next t ∧ t.cu = done ∧ t.store = s.store.withRx n st c ∧
        t.stat = (s.stat.seesRx n st c).latched [.commandDone] ∧ t.arb = s.arb.ended s.store ∧
        t.fbq = (if st = .free then s.fbq.filter fun x => !(x.kind = .ack && x.n = n) else s.fbq) ∧
        OnlyChanges [.cu, .store, .stat, .arb, .fbq] s t) ∧
    (s.cu.st = .busy .retireRx n d →
      ∃ t, exec .commandTransaction s = .next t ∧ t.cu = done ∧ t.store = s.store.withRx n .free .zero ∧
        t.stat = (s.stat.seesRx n .free .zero).latched [.commandDone] ∧ t.arb = s.arb.ended s.store ∧
        t.fbq = (s.fbq.filter fun x => !(x.kind = .ack && x.n = n)) ∧
        OnlyChanges [.cu, .store, .stat, .arb, .fbq] s t) ∧
    (s.cu.st = .busy .retireTx n d →
      ∃ t, exec .commandTransaction s = .next t ∧ t.cu = done ∧ t.txRec n = ⟨.free, .zero, []⟩ ∧
        (∀ k, k ≠ n → t.txRec k = s.txRec k) ∧ t.refOf n = none ∧ t.isFree n = true ∧
        (∀ k, k ≠ n → t.refOf k = s.refOf k ∧ t.isFree k = s.isFree k) ∧
        (∀ b i, t.slotAt b i = if s.refOf n = some ⟨b, i⟩ then none else s.slotAt b i) ∧
        t.store = { s.store with tx := t.store.tx, index := t.store.index, refs := t.store.refs, free := t.store.free } ∧
        t.stat = (s.stat.seesTx n .free .zero).latched [.commandDone] ∧ t.arb = s.arb.ended s.store ∧
        OnlyChanges [.cu, .store, .stat, .arb] s t)

/-- LOAD_TX: which windows are loadable and as what record; accepted with a loadable window, else BAD_RECORD at once (the refusal
field set to OK: log 23, DEDUCED); its transaction is refused with NOT_FREE (the record's view left alone: log 17, DEDUCED),
DUPLICATE_KEY or BUCKET_FULL, tested in this order, or installs the window's record with a slot. The search is the one of a
take. -/
def Obligations.LoadTxCommand : Prop :=
  (∀ w : Vector Word 8,
    let c : Contents :=
      { key := ⟨w[1].extractLsb' 16 16, w[1].extractLsb' 0 16, w[2].extractLsb' 24 8, w[2].extractLsb' 16 8,
          w[2].extractLsb' 8 8⟩
        seq := w[3].extractLsb' 16 16, stride := w[3].extractLsb' 0 16, time := w[4]
        tally := w[0].extractLsb' 4 3, age := w[0].extractLsb' 8 8, pinned := w[0].getLsbD 3
        uses := w[5].extractLsb' 0 16 }
    windowKey w = c.key ∧ windowTx w = match (w[0].extractLsb' 0 3).toNat with
      | 1 => some (.opening, c)
      | 2 => some (.opened, c)
      | 3 => some (.refreshing, c)
      | _ => none) ∧
  (∀ s : State, TakesCommands s →
    ((windowTx s.cu.window).isSome = true →
      ∃ t, exec .loadTx s = .next t ∧ t.cu = { s.cu with st := .busy .loadTx s.cu.argN s.cu.argDir, refusal := .ok } ∧
        t.arb = s.arb.asked s.store .command ∧ OnlyChanges [.cu, .arb] s t) ∧
    (windowTx s.cu.window = none →
      ∃ t, exec .loadTx s = .next t ∧ t.cu = { s.cu with result := .badRecord, refusal := .ok } ∧
        t.stat = s.stat.latched [.commandDone] ∧ OnlyChanges [.cu, .stat] s t)) ∧
  ∀ (s : State) (n : Ctx) (d : Dir) (st : TxState) (c : Contents), s.holds .command = true →
    s.cu.st = .busy .loadTx n d → windowTx s.cu.window = some (st, c) →
    let b := c.key.bucket
    let s1 := (search .command c.key s).1
    let found := (search .command c.key s).2
    ∃ t, exec .commandTransaction s = .next t ∧ OnlyChanges [.cu, .stat, .store, .stats, .arb] s t ∧
      ((s.txRec n).st.slotted = true →
        t.cu = { s.cu with st := .idle, result := .notFree } ∧ t.store = s.store ∧ t.stats = s.stats ∧
        t.stat = s.stat.latched [.commandDone] ∧ t.arb = s.arb.ended s.store) ∧
      ((s.txRec n).st.slotted = false → t.stats = s1.stats ∧ t.arb = s1.arb.ended s1.store) ∧
      (∀ k, (s.txRec n).st.slotted = false → found = some k →
        t.cu = { s.cu with st := .idle, result := .duplicateKey } ∧ t.store = s1.store ∧
        t.stat = s1.stat.latched [.commandDone]) ∧
      ((s.txRec n).st.slotted = false → found = none → (∀ j, s1.slotAt b j ≠ none) →
        t.cu = { s.cu with st := .idle, result := .bucketFull } ∧ t.store = s1.store ∧
        t.stat = s1.stat.latched [.commandDone]) ∧
      (∀ i, (s.txRec n).st.slotted = false → found = none → s1.slotAt b i = none → (∀ j, j < i → s1.slotAt b j ≠ none) →
        t.cu = { s.cu with st := .idle, result := .ok } ∧
        t.store = { s1.store.withTx n st c with
          index := s1.store.index.set b.toNat ((s1.store.index[b.toNat]'b.isLt).set i (some ⟨n, c.key.signature⟩)) b.isLt
          refs := Table.put s1.store.refs n (some ⟨b, i⟩)
          free := Table.put s1.store.free n false } ∧
        t.stat = (s1.stat.seesTx n st c).latched [.commandDone])

/-- PIN and UNPIN: accepted, and their transactions on the record as the checked read left it (`s1`). -/
def Obligations.PinCommands : Prop :=
  (∀ s : State, TakesCommands s →
    (∃ t, exec .pin s = .next t ∧ t.cu = { s.cu with st := .busy .pin s.cu.argN s.cu.argDir, refusal := .ok } ∧
      t.arb = s.arb.asked s.store .command ∧ OnlyChanges [.cu, .arb] s t) ∧
    ∃ t, exec .unpin s = .next t ∧ t.cu = { s.cu with st := .busy .unpin s.cu.argN s.cu.argDir, refusal := .ok } ∧
      t.arb = s.arb.asked s.store .command ∧ OnlyChanges [.cu, .arb] s t) ∧
  ∀ (s : State) (n : Ctx) (v : Bool), s.holds .command = true →
    let cmd : StoreCmd := if v then .pin else .unpin
    (s.cu.st = .busy cmd n .receive →
      let s1 := readRx .command n s
      let r := s1.rxRec n
      let c : Contents := { r.c with pinned := v }
      ∃ t, exec .commandTransaction s = .next t ∧ t.stats = s1.stats ∧ t.arb = s1.arb.ended s1.store ∧
        OnlyChanges [.cu, .store, .stats, .stat, .arb] s t ∧
        ((r.st = .free ∨ r.st = .damaged) → t.store = s1.store ∧ t.stat = s1.stat.latched [.commandDone] ∧
          t.cu = { s.cu with st := .idle, result := .badArgument }) ∧
        (r.st ≠ .free → r.st ≠ .damaged → t.store = s1.store.withRx n r.st c ∧
          t.stat = (s1.stat.seesRx n r.st c).latched [.commandDone] ∧ t.cu = { s.cu with st := .idle, result := .ok })) ∧
    (s.cu.st = .busy cmd n .transmit →
      let s1 := readTx .command n s
      let r := s1.txRec n
      let c : Contents := { r.c with pinned := v }
      ∃ t, exec .commandTransaction s = .next t ∧ t.stats = s1.stats ∧ t.arb = s1.arb.ended s1.store ∧
        OnlyChanges [.cu, .store, .stats, .stat, .arb] s t ∧
        ((r.st = .free ∨ r.st = .damaged) → t.store = s1.store ∧ t.stat = s1.stat.latched [.commandDone] ∧
          t.cu = { s.cu with st := .idle, result := .badArgument }) ∧
        (r.st ≠ .free → r.st ≠ .damaged → t.store = s1.store.withTx n r.st c ∧
          t.stat = (s1.stat.seesTx n r.st c).latched [.commandDone] ∧ t.cu = { s.cu with st := .idle, result := .ok }))

/-- FIND_TX and CLEAR_DEGRADED: accepted, and their transactions. CLEAR_DEGRADED goes by the capture as its grant found it
(`tested`, log 26): on a store with no transaction in progress and no requester waiting the grant is in the step of the write,
and a host write of the capture after it changes nothing for the command. -/
def Obligations.FindTxAndClearDegraded : Prop :=
  (∀ s : State, TakesCommands s →
    (∃ t, exec .findTx s = .next t ∧ t.cu = { s.cu with st := .busy .findTx s.cu.argN s.cu.argDir, refusal := .ok } ∧
      t.arb = s.arb.asked s.store .command ∧ OnlyChanges [.cu, .arb] s t) ∧
    ∃ t, exec .clearDegraded s = .next t ∧
      t.cu = { s.cu with st := .busy .clearDegraded s.cu.argN s.cu.argDir, refusal := .ok } ∧
      t.arb = s.arb.asked s.store .command ∧ OnlyChanges [.cu, .arb] s t ∧
      (StoreQuiet s → t.holds .command = true ∧
        (t.arb.tested = true ↔ ∃ k, s.store.capture = some k ∧ k.uncorrected = true) ∧
        ∀ w, ∃ u, exec (.errorCaptureWrite w) t = .next u ∧ u.holds .command = true ∧ u.cu = t.cu ∧
          u.arb.tested = t.arb.tested)) ∧
  ∀ (s : State) (n : Ctx) (d : Dir), s.holds .command = true →
    (s.cu.st = .busy .findTx n d →
      let k := windowKey s.cu.window
      let s1 := (search .command k s).1
      ∃ t, exec .commandTransaction s = .next t ∧ t.store = s1.store ∧ t.stats = s1.stats ∧
        t.stat = s1.stat.latched [.commandDone] ∧ t.arb = s1.arb.ended s1.store ∧
        OnlyChanges [.cu, .store, .stats, .stat, .arb] s t ∧
        (∀ j, (search .command k s).2 = some j → t.cu = { s.cu with st := .idle, result := .ok, found := j } ∧
          (s1.txRec j).c.key = k) ∧
        ((search .command k s).2 = none → t.cu = { s.cu with st := .idle, result := .notFound, found := 0 })) ∧
    (s.cu.st = .busy .clearDegraded n d →
      ∃ t, exec .commandTransaction s = .next t ∧ OnlyChanges [.cu, .store, .stat, .arb] s t ∧
        t.store = { s.store with st := t.store.st } ∧
        (s.arb.tested = true →
          t.store = s.store ∧ t.cu = { s.cu with st := .idle, result := .capturePending } ∧
          t.stat = s.stat.latched [.commandDone]) ∧
        (s.arb.tested = false → t.cu = { s.cu with st := .idle, result := .ok } ∧
          (s.store.st = .degraded → t.store.st = .ready ∧
            t.stat = { s.stat.latched [.commandDone] with
              degraded := if s.stat.degraded.live then ⟨false, true⟩ else s.stat.degraded }) ∧
          (s.store.st ≠ .degraded → t.store = s.store ∧ t.stat = s.stat.latched [.commandDone])))

/-- RETIRE_ALL_RX and RETIRE_ALL_TX start a walk at index 0; each of its transactions retires the record at the index, and the
one on record 255 completes the command. -/
def Obligations.RetireAllWalk : Prop :=
  (∀ s : State, TakesCommands s →
    (∃ t, exec .retireAllRx s = .next t ∧ t.cu = { s.cu with st := .walk .receive 0, refusal := .ok } ∧
      t.arb = s.arb.asked s.store .command ∧ OnlyChanges [.cu, .arb] s t) ∧
    ∃ t, exec .retireAllTx s = .next t ∧ t.cu = { s.cu with st := .walk .transmit 0, refusal := .ok } ∧
      t.arb = s.arb.asked s.store .command ∧ OnlyChanges [.cu, .arb] s t) ∧
  ∀ (s : State) (d : Dir) (i : Byte), s.holds .command = true → s.cu.st = .walk d i →
    ∃ t, exec .walkStep s = .next t ∧ OnlyChanges [.cu, .store, .stat, .fbq, .arb] s t ∧
      (i ≠ 255 → t.cu = { s.cu with st := .walk d (i + 1) } ∧ t.arb = (s.arb.setWait true .command).ended s.store) ∧
      (i = 255 → t.cu = { s.cu with st := .idle, result := .ok } ∧ t.arb = s.arb.ended s.store) ∧
      t.stat.events = (if i = 255 then (s.stat.latched [.commandDone]).events else s.stat.events) ∧
      (d = .receive → t.store = s.store.withRx i .free .zero ∧
        t.fbq = (s.fbq.filter fun x => !(x.kind = .ack && x.n = i)) ∧
        t.stat = { s.stat.seesRx i .free .zero with events := t.stat.events }) ∧
      (d = .transmit → t.fbq = s.fbq ∧ t.txRec i = ⟨.free, .zero, []⟩ ∧ (∀ k, k ≠ i → t.txRec k = s.txRec k) ∧
        t.refOf i = none ∧ t.isFree i = true ∧
        (∀ k, k ≠ i → t.refOf k = s.refOf k ∧ t.isFree k = s.isFree k) ∧
        (∀ b j, t.slotAt b j = if s.refOf i = some ⟨b, j⟩ then none else s.slotAt b j) ∧
        t.store = { s.store with tx := t.store.tx, index := t.store.index, refs := t.store.refs, free := t.store.free } ∧
        t.stat = { s.stat.seesTx i .free .zero with events := t.stat.events })

/-- OPEN_BANK on the working or the pending bank completes with BANK_IN_USE, on any other with OK; that the refusal field is set
to OK in both cases is the model's reading (log 23, DEDUCED). -/
def Obligations.OpenBankCommand : Prop :=
  ∀ (s : State) (k : BankId), TakesCommands s → s.cu.argN = (match k with | .a => 0 | .b => 1) →
    ∃ t, exec .openBank s = .next t ∧ t.stat = s.stat.latched [.commandDone] ∧ OnlyChanges [.banks, .cu, .stat] s t ∧
      ((s.comp.working = k ∨ s.comp.pendingBank = some k) →
        t.banks = s.banks ∧ t.cu = { s.cu with result := .bankInUse, refusal := .ok }) ∧
      (s.comp.working ≠ k → s.comp.pendingBank ≠ some k →
        let x := s.banks.get k
        t.banks = s.banks.put k ⟨.loading, ⟨x.c.table, 0⟩, ⟨x.s.table, 0⟩, ⟨x.t.table, 0⟩⟩ ∧
        t.cu = { s.cu with result := .ok, refusal := .ok })

/-- CLOSE_BANK and SELECT_TX_BANK in each state of the bank; that the refusal field is set to OK when they complete with
BANK_INVALID too is the model's reading (log 23, DEDUCED). -/
def Obligations.CloseAndSelectBank : Prop :=
  ∀ (s : State) (k : BankId), TakesCommands s → s.cu.argN = (match k with | .a => 0 | .b => 1) →
    (∃ t, exec .closeBank s = .next t ∧ t.stat = s.stat.latched [.commandDone] ∧ OnlyChanges [.banks, .cu, .stat] s t ∧
      ((s.banks.get k).st = .loading →
        t.banks = s.banks.put k { s.banks.get k with st := .valid } ∧ t.cu = { s.cu with result := .ok, refusal := .ok }) ∧
      ((s.banks.get k).st = .valid → t.banks = s.banks ∧ t.cu = { s.cu with result := .ok, refusal := .ok }) ∧
      ((s.banks.get k).st = .invalid →
        t.banks = s.banks ∧ t.cu = { s.cu with result := .bankInvalid, refusal := .ok })) ∧
    ∃ t, exec .selectTxBank s = .next t ∧ t.stat = s.stat.latched [.commandDone] ∧ OnlyChanges [.comp, .cu, .stat] s t ∧
      ((s.banks.get k).st = .valid →
        t.comp = { s.comp with pendingBank := some k } ∧ t.cu = { s.cu with result := .ok, refusal := .ok }) ∧
      ((s.banks.get k).st ≠ .valid → t.comp = s.comp ∧ t.cu = { s.cu with result := .bankInvalid, refusal := .ok })

/-- The refusals of a command write: BUSY, NOT_READY (an unknown code too), an unknown code, a bank argument that names no bank;
and writes of the record window, stored or refused. The model's readings: that a word above 18 in any of its 32 bits is an unknown code (log
18, DEDUCED), and when the refusal field is left or set to OK (log 23, DEDUCED). -/
def Obligations.CommandsRefused : Prop :=
  ∀ s : State, HostOpen s →
    (∀ i ∈ [Instr.readRx, .readTx, .loadRx, .loadTx, .retireRx, .retireTx, .pin, .unpin, .retireAllRx, .retireAllTx, .findTx,
        .openBank, .closeBank, .selectTxBank, .clearDegraded, .snapshot, .linkReset ()],
      (s.cu.st ≠ .idle →
        ∃ t, exec i s = .next t ∧ t.cu = { s.cu with refusal := .busy } ∧ t.stat = s.stat.latched [.commandRefused] ∧
          OnlyChanges [.cu, .stat] s t) ∧
      (s.cu.st = .idle → s.store.st = .starting →
        ∃ t, exec i s = .next t ∧ t.cu = { s.cu with result := .notReady } ∧ t.stat = s.stat.latched [.commandDone] ∧
          OnlyChanges [.cu, .stat] s t)) ∧
    (∀ code : Word, code = 0 ∨ 18 < code.toNat →
      (TakesCommands s →
        ∃ t, exec (.unknownCommand code) s = .next t ∧ t.cu = { s.cu with result := .badArgument } ∧
          t.stat = s.stat.latched [.commandDone] ∧ OnlyChanges [.cu, .stat] s t) ∧
      (s.cu.st ≠ .idle →
        ∃ t, exec (.unknownCommand code) s = .next t ∧ t.cu = { s.cu with refusal := .busy } ∧
          t.stat = s.stat.latched [.commandRefused] ∧ OnlyChanges [.cu, .stat] s t) ∧
      (s.cu.st = .idle → s.store.st = .starting →
        ∃ t, exec (.unknownCommand code) s = .next t ∧ t.cu = { s.cu with result := .notReady } ∧
          t.stat = s.stat.latched [.commandDone] ∧ OnlyChanges [.cu, .stat] s t)) ∧
    (TakesCommands s → 1 < s.cu.argN.toNat → ∀ i ∈ [Instr.openBank, .closeBank, .selectTxBank],
      ∃ t, exec i s = .next t ∧ t.cu = { s.cu with result := .badArgument, refusal := .ok } ∧
        t.stat = s.stat.latched [.commandDone] ∧ OnlyChanges [.cu, .stat] s t) ∧
    ∀ (j : Fin 8) (w : Word),
      (s.cu.st = .idle →
        ∃ t, exec (.recordWindowWrite j w) s = .next t ∧ t.cu = { s.cu with window := s.cu.window.set j w } ∧
          OnlyChanges [.cu] s t) ∧
      (s.cu.st ≠ .idle →
        ∃ t, exec (.recordWindowWrite j w) s = .next t ∧ t.cu = { s.cu with refusal := .busy } ∧
          t.stat = s.stat.latched [.commandRefused] ∧ OnlyChanges [.cu, .stat] s t)

/-! ## Resets -/

/-- LINK_RESET. A granted transaction is in progress and runs to its end (log 4, DEDUCED); the gap counter of IDLE and HELD is
left as it is (log 15). -/
def Obligations.LinkResetActs : Prop :=
  ∀ s : State, TakesCommands s →
    ∃ t, exec (.linkReset ()) s = .next t ∧
      t.cu = { s.cu with result := .ok, refusal := .ok } ∧ t.fbq = [] ∧
      t.host = { s.host with
        rx := [], readPos := 0, lostMark := false, committed := [], build := [], overrun := false } ∧
      t.lrx = { s.lrx with
        st := if s.lrx.st = .disabled then .disabled else .hunt [], bufs := #v[.empty, .empty], order := []
        badRun := 0, goodRun := 0, silence := 0 } ∧
      (s.exp = .idle ∨ (∃ k e, s.exp = .deliver k e) → t.exp = .idle) ∧
      (∀ k w, s.exp = .busy k w →
        t.exp = if s.holds .expander = true then .abandonedRunning w else .abandonedWaiting) ∧
      (s.exp = .abandonedWaiting ∨ (∃ w, s.exp = .abandonedRunning w) → t.exp = s.exp) ∧
      (s.ltx.st ≠ .frame → s.comp.work = .idle →
        t.ltx = { s.ltx with st := if s.ltx.st = .disabled then .disabled else .idle, alt := false } ∧
        t.comp = s.comp ∧ t.arb = s.arb ∧ t.stats = s.stats ∧ t.stat.events = (s.stat.latched [.commandDone]).events) ∧
      (∀ fl, s.ltx.st = .frame → s.ltx.inFlight = some fl → (s.comp.work = .sending ∨ s.comp.work = .idle) →
        t.stats = s.stats.counted [.txAborted] ∧ t.stat.events = (s.stat.latched [.txAborted, .commandDone]).events ∧
        (∀ n, fl.n = some n → t.comp = { s.comp with work := .aborting n } ∧
          t.arb = s.arb.asked s.store .compressor ∧
          t.ltx = { s.ltx with inFlight := none, rest := [], gap := 0, alt := false }) ∧
        (fl.n = none → t.comp = { s.comp with work := .idle } ∧ t.arb = s.arb ∧
          t.ltx = { s.ltx with
            st := if s.ltx.enable then .idle else .disabled, inFlight := none, rest := [], gap := 0, alt := false })) ∧
      (∀ m f fate, s.ltx.st = .frame → s.comp.work = .taking m f fate →
        t.comp = { s.comp with
          work := .taking m f (if fate ≠ .discard ∧ s.holds .compressor = true then .abandon else .discard) } ∧
        t.ltx = { s.ltx with alt := false } ∧ t.stats = s.stats ∧ t.arb = s.arb ∧
        t.stat.events = (s.stat.latched [.commandDone]).events) ∧
      (∀ n, s.ltx.st = .frame → s.comp.work = .aborting n →
        t.comp = s.comp ∧ t.ltx = { s.ltx with alt := false } ∧ t.stats = s.stats ∧ t.arb = s.arb ∧
        t.stat.events = (s.stat.latched [.commandDone]).events) ∧
      t.stat.lof = (if s.stat.lof.live then ⟨false, true⟩ else s.stat.lof) ∧
      t.stat.silent = (if s.stat.silent.live then ⟨false, true⟩ else s.stat.silent) ∧
      t.stat = { s.stat with events := t.stat.events, lof := t.stat.lof, silent := t.stat.silent } ∧
      OnlyChanges [.cu, .fbq, .host, .lrx, .exp, .ltx, .comp, .arb, .stats, .stat] s t

/-- DEVICE_RESET in any state of the Command Unit, the release of RESET, and RESET asserted, under which the host's accesses do
nothing. The model's choices: the pins are outside a device reset (log 10), and every record is FREE as soon as the start-up
walk begins (log 9). -/
def Obligations.DeviceResetAndResetInput : Prop :=
  ∀ s : State,
    (HostOpen s → ∃ t, exec .deviceReset s = .next t ∧ t.pending = s.pending ∧ t.pins = s.pins ∧
      OnlyChanges [.pending, .pins] State.reset t) ∧
    (∃ t, exec .resetRelease s = .next t ∧ t.pending = s.pending ∧ t.pins = { s.pins with resetPin := false } ∧
      OnlyChanges [.pending, .pins] State.reset t) ∧
    (∃ t, exec .resetAssert s = .next t ∧ t.pins = { s.pins with resetPin := true } ∧ OnlyChanges [.pins] s t) ∧
    (s.pins.resetPin = true →
      (∀ i ∈ [Instr.readRx, .readTx, .loadRx, .loadTx, .retireRx, .retireTx, .pin, .unpin, .retireAllRx, .retireAllTx,
          .findTx, .openBank, .closeBank, .selectTxBank, .clearDegraded, .snapshot, .linkReset (), .deviceReset, .discard,
          .cancel, .timerTransfer, .singleIncrement, .receiveEnable true, .receiveEnable false, .transmitEnable true,
          .transmitEnable false, .timerRun true, .timerRun false], exec i s = .next s) ∧
      (∀ w : Word, ∀ i ∈ [Instr.unknownCommand w, .transmitData w, .commit w, .tableSelect w, .tableDataWrite w,
          .errorCaptureWrite w, .eventFlagsWrite w, .alarmsWrite w, .monitorSelect w], exec i s = .next s) ∧
      (∀ a w, exec (.configurationWrite a w) s = .next s) ∧ (∀ j w, exec (.recordWindowWrite j w) s = .next s) ∧
      exec .receiveData s = .next (s.setPins { s.pins with dataOut := 0 }) ∧
      exec .tableDataRead s = .next (s.setPins { s.pins with dataOut := 0 }) ∧ ∀ a, s.readWord a = 0)

/-! ## The Host Port -/

/-- The receive message FIFO: the status word of an entry, RECEIVE_DATA and DISCARD. -/
def Obligations.ReceiveFifoPorts : Prop :=
  (∀ e : RxEntry,
    let bit := fun b : Bool => (if b then 1 else 0 : BitVec 1)
    let kind : BitVec 3 :=
      match e.kind with | .raw => 0 | .full => 1 | .delta => 2 | .brief => 3 | .feedback => 4
    e.status = (e.header.len ++ e.n ++ 0#3 ++ bit e.lostBefore ++ bit e.notStored ++ bit e.restored ++ bit e.replaced ++
      bit e.isNew ++ 0#3 ++ e.repaired ++ kind : BitVec 32)) ∧
  ∀ s : State, HostOpen s →
    (s.host.rx = [] →
      (∃ t, exec .receiveData s = .next t ∧ t.pins = { s.pins with dataOut := 0 } ∧
        t.stat = s.stat.latched [.rxUnderrun] ∧ OnlyChanges [.pins, .stat] s t) ∧ exec .discard s = .next s) ∧
    ∀ e es, s.host.rx = e :: es →
      (∃ t, exec .discard s = .next t ∧ t.host = { s.host with rx := es, readPos := 0 } ∧ OnlyChanges [.host] s t) ∧
      ∃ t, exec .receiveData s = .next t ∧ OnlyChanges [.pins, .host] s t ∧
        (s.host.readPos = 0 → t.pins = { s.pins with dataOut := e.status }) ∧
        (∀ j w, s.host.readPos = j + 1 → (packWords (e.header.bytes ++ e.payload))[j]? = some w →
          t.pins = { s.pins with dataOut := w }) ∧
        (4 * (s.host.readPos + 1) < e.size → t.host = { s.host with readPos := s.host.readPos + 1 }) ∧
        (e.size ≤ 4 * (s.host.readPos + 1) → t.host = { s.host with rx := es, readPos := 0 })

/-- The transmit message FIFO: TRANSMIT_DATA, CANCEL and COMMIT with its five checks in order. That CANCEL clears the overrun flag
of an empty construction too is the model's reading (log 25, DEDUCED). -/
def Obligations.TransmitFifoPorts : Prop :=
  ∀ (s : State) (w : Word), HostOpen s →
    let n := (w.extractLsb' 0 8).toNat
    let words := (n + 3) / 4
    let bytes := s.host.build.flatMap bytes32
    let empty := fun r : BitVec 3 => { s.host with build := [], overrun := false, reason := r }
    let refuses := fun r : BitVec 3 =>
      ∃ t, exec (.commit w) s = .next t ∧ t.host = empty r ∧ t.stat = s.stat.latched [.txReject] ∧
        OnlyChanges [.host, .stat] s t
    (s.host.overrun = false → s.host.build.length < 60 → s.host.txBytes + 4 ≤ 4096 →
      ∃ t, exec (.transmitData w) s = .next t ∧ t.host = { s.host with build := s.host.build ++ [w] } ∧
        OnlyChanges [.host] s t) ∧
    ((s.host.overrun = true ∨ 60 ≤ s.host.build.length ∨ 4096 < s.host.txBytes + 4) →
      ∃ t, exec (.transmitData w) s = .next t ∧ t.host = { s.host with overrun := true } ∧ OnlyChanges [.host] s t) ∧
    (∃ t, exec .cancel s = .next t ∧ t.host = { s.host with build := [], overrun := false } ∧ OnlyChanges [.host] s t) ∧
    ((n < 14 ∨ 238 < n) → refuses 1) ∧
    (14 ≤ n → n ≤ 238 → s.host.overrun = true → refuses 5) ∧
    (14 ≤ n → n ≤ 238 → s.host.overrun = false → s.host.build.length ≠ words → refuses 2) ∧
    (14 ≤ n → n ≤ 238 → s.host.overrun = false → s.host.build.length = words →
      (∀ x, bytes[13]? = some x → x.toNat ≠ n - 14) → refuses 3) ∧
    (14 ≤ n → n ≤ 238 → s.host.overrun = false → s.host.build.length = words →
      (∃ x, bytes[13]? = some x ∧ x.toNat = n - 14) →
      (32 ≤ s.host.committed.length → refuses 4) ∧
      (s.host.committed.length < 32 →
        ∃ t, exec (.commit w) s = .next t ∧
          t.host = { empty 0 with committed := s.host.committed ++ [bytes.take n] } ∧ OnlyChanges [.host] s t))

/-- Table data writes and reads on the selected table. -/
def Obligations.TablePorts : Prop :=
  ∀ (s : State) (w : Word), HostOpen s →
    let x := s.banks.selected
    ((s.banks.get s.banks.selBank).st ≠ .loading →
      ∃ t, exec (.tableDataWrite w) s = .next t ∧ t.stat = s.stat.latched [.tableWriteIgnored] ∧
        OnlyChanges [.stat] s t) ∧
    ((s.banks.get s.banks.selBank).st = .loading →
      ∃ t, exec (.tableDataWrite w) s = .next t ∧ OnlyChanges [.banks] s t ∧
        t.banks = s.banks.putSelected t.banks.selected ∧
        (w.getLsbD 15 = false → t.banks.selected = ⟨{ x.table with
          entries := x.table.entries.set x.ptr.toNat ⟨w.getLsbD 4, w.extractLsb' 0 4⟩ x.ptr.isLt }, x.ptr + 1⟩) ∧
        (w.getLsbD 15 = true → t.banks.selected =
          ⟨{ x.table with pol := w.getLsbD 8, short := w.getLsbD 9, sx := w.extractLsb' 10 4 }, x.ptr⟩)) ∧
    ∃ t, exec .tableDataRead s = .next t ∧ OnlyChanges [.pins, .banks] s t ∧
      t.banks = s.banks.putSelected ⟨x.table, x.ptr + 1⟩ ∧ t.pins = { s.pins with dataOut := t.pins.dataOut } ∧
      t.pins.dataOut.extractLsb' 0 4 = (x.table.entries[x.ptr.toNat]'x.ptr.isLt).xcount ∧
      t.pins.dataOut.getLsbD 4 = (x.table.entries[x.ptr.toNat]'x.ptr.isLt).last ∧
      t.pins.dataOut.getLsbD 8 = x.table.pol ∧ t.pins.dataOut.getLsbD 9 = x.table.short ∧
      t.pins.dataOut.extractLsb' 10 4 = x.table.sx ∧ t.pins.dataOut.extractLsb' 16 3 = x.ptr

/-- Any host write to the error capture register empties the capture and clears LOST; the report of an error before or after it
goes by the capture it finds. -/
def Obligations.ErrorCaptureWriteEmpties : Prop :=
  ∀ (s : State) (w : Word), HostOpen s →
    ∃ t, exec (.errorCaptureWrite w) s = .next t ∧ t.store = { s.store with capture := none, lost := false } ∧
      OnlyChanges [.store] s t ∧
      (∀ k, (reportError k t).store = { t.store with capture := some k }) ∧
      ∀ k, ∃ u, exec (.errorCaptureWrite w) (reportError k s) = .next u ∧ u = t

/-- Event flags, alarms and the monitor selection; what a host read returns of status, events, alarms, FIFOs, results, banks,
error capture, monitor and statistics. That bit 5 of the bank status word and the four fields of the error capture word read
0 while there is no pending bank and no error is the model's choice (log 24). That the bits the map does not name read 0 in
words 3, 5, 12, 24 and 38 to 42 as well is the model's reading (log 12, DEDUCED). Which bit of the alarms word and of the
alarms' enables belongs to which alarm is the model's choice: LOSS_OF_FRAMING lowest, DEGRADED highest (log 27). -/
def Obligations.StatusPorts : Prop :=
  ∀ (s : State) (w : Word), HostOpen s →
    (∃ t, exec (.eventFlagsWrite w) s = .next t ∧ OnlyChanges [.stat] s t ∧
      t.stat = { s.stat with events := t.stat.events } ∧
      ∀ i < 14, t.stat.events.getLsbD i = (s.stat.events.getLsbD i && !w.getLsbD i)) ∧
    (∃ t, exec (.alarmsWrite w) s = .next t ∧ OnlyChanges [.stat] s t ∧
      t.stat = { s.stat with
        lof := ⟨s.stat.lof.live, s.stat.lof.latch && !w.getLsbD 8⟩
        silent := ⟨s.stat.silent.live, s.stat.silent.latch && !w.getLsbD 9⟩
        degraded := ⟨s.stat.degraded.live, s.stat.degraded.latch && !w.getLsbD 10⟩ }) ∧
    (∃ t, exec (.monitorSelect w) s = .next t ∧ OnlyChanges [.stat] s t ∧
      t.stat = { s.stat with
        selRx := w.extractLsb' 0 8, selTx := w.extractLsb' 8 8
        viewRx := if s.stat.selRx = w.extractLsb' 0 8 then s.stat.viewRx else ⟨0, false, 0, 0⟩
        viewTx := if s.stat.selTx = w.extractLsb' 8 8 then s.stat.viewTx else ⟨0, false, 0, 0⟩ }) ∧
    s.irq = ((List.range 14).any (fun i =>
        (if i = 0 then !s.host.rx.isEmpty || s.stat.events.getLsbD 0 else s.stat.events.getLsbD i) &&
          s.stat.evEnable.getLsbD i) ||
      (s.stat.lof.latch && s.stat.alEnable.getLsbD 0) || (s.stat.silent.latch && s.stat.alEnable.getLsbD 1) ||
      (s.stat.degraded.latch && s.stat.alEnable.getLsbD 2)) ∧
    let bit := fun b : Bool => (if b then 1 else 0 : BitVec 1)
    let bankCode := fun k : BankState => (match k with | .invalid => 0 | .loading => 1 | .valid => 2 : BitVec 2)
    let resultCode := fun r : Result => (match r with
      | .ok => 0 | .notFound => 1 | .badArgument => 2 | .badRecord => 3 | .notFree => 4 | .duplicateKey => 5
      | .bucketFull => 6 | .bankInUse => 7 | .bankInvalid => 8 | .capturePending => 9 | .notReady => 10 | .busy => 11 : Byte)
    let viewWord := fun v : View => (v.seq ++ v.age ++ 0#4 ++ bit v.valid ++ v.code : BitVec 32)
    s.readWord 0 = 0x21400001#32 ∧
    s.readWord 2 = (0#4 ++ s.sweep.pend ++ 0#1 ++ bit s.sweep.idx.isSome ++
      (match s.cu.st with | .walk _ i => i | _ => 0 : Byte) ++ 0#3 ++ bit (decide (s.cu.st ≠ .idle)) ++ 0#2 ++
      (match s.ltx.st with | .disabled => 0 | .idle => 1 | .held => 2 | .frame => 3 : BitVec 2) ++ 0#1 ++
      (match s.lrx.st with
        | .disabled => 0 | .hunt _ => 1 | .address _ _ => 2 | .frame _ _ _ _ _ => 3 | .skip _ _ _ => 4 : BitVec 3) ++ 0#2 ++
      (match s.store.st with | .starting => 0 | .ready => 1 | .degraded => 2 : BitVec 2) : BitVec 32) ∧
    s.readWord 3 = (0#18 ++ (s.stat.events ||| if s.host.rx = [] then 0 else 1) : BitVec 32) ∧
    s.readWord 5 = (0#21 ++ bit s.stat.degraded.latch ++ bit s.stat.silent.latch ++ bit s.stat.lof.latch ++ 0#5 ++
      bit s.stat.degraded.live ++ bit s.stat.silent.live ++ bit s.stat.lof.live : BitVec 32) ∧
    s.readWord 7 = (0#2 ++ BitVec.ofNat 6 s.host.readPos ++ BitVec.ofNat 8 s.host.rx.length ++ 0#3 ++
      BitVec.ofNat 13 s.host.rxBytes : BitVec 32) ∧
    s.readWord 9 = (0#2 ++ BitVec.ofNat 6 s.host.build.length ++ bit s.host.overrun ++ 0#1 ++
      BitVec.ofNat 6 s.host.committed.length ++ s.host.reason ++ BitVec.ofNat 13 s.host.txBytes : BitVec 32) ∧
    s.readWord 12 = (0#8 ++ s.cu.found ++ resultCode s.cu.refusal ++ resultCode s.cu.result : BitVec 32) ∧
    s.readWord 23 = (0#25 ++ bit s.comp.pendingBank.isSome ++ bit (decide (s.comp.pendingBank = some .b)) ++
      bit (decide (s.comp.working = .b)) ++ bankCode s.banks.b.st ++ bankCode s.banks.a.st : BitVec 32) ∧
    (s.store.capture = none → s.readWord 24 = (0#15 ++ bit s.store.lost ++ 0#16 : BitVec 32)) ∧
    (∀ k, s.store.capture = some k → s.readWord 24 = (0#15 ++ bit s.store.lost ++ k.n ++ 0#2 ++
      (match k.req with | .expander => 0 | .compressor => 1 | .command => 2 | .sweep => 3 : BitVec 2) ++ 0#1 ++
      bit (decide (k.dir = .transmit)) ++ bit k.uncorrected ++ 1#1 : BitVec 32)) ∧
    s.readWord 38 = (0#16 ++ s.stat.selTx ++ s.stat.selRx : BitVec 32) ∧
    s.readWord 39 = viewWord s.stat.viewRx ∧ s.readWord 40 = viewWord s.stat.viewTx ∧
    s.readWord 41 = (0#23 ++ bit s.stats.selSnap ++ 0#3 ++ s.stats.sel : BitVec 32) ∧
    (∀ k : Fin 30, s.stats.sel.toNat = k.val →
      s.readWord 42 = (0#16 ++ (if s.stats.selSnap then s.stats.snap[k] else s.stats.live[k]) : BitVec 32)) ∧
    (29 < s.stats.sel.toNat → s.readWord 42 = 0)

/-- CONFIGURATION_WRITE: each field at the nearest value of its range; the words that are no configuration; the words whose
writes are ignored; TABLE_SELECT; and what a host read returns of these words. The model's readings: that the gap G is bits
11:8 alone (log 14, DEDUCED, unsafe), that the fourth table code names T (log 13, DEDUCED), and that the argument word keeps
all its bits, the other unnamed bits and the two write-one actions of word 27 reading 0 (log 12, DEDUCED). -/
def Obligations.ConfigurationWrites : Prop :=
  ∀ (s : State) (w : Word), HostOpen s →
    let at' := fun lo len => (w.extractLsb' lo len).toNat
    (∀ a : BitVec 6, 28 ≤ a.toNat → a.toNat ≤ 37 →
      ∃ t, exec (.configurationWrite a w) s = .next t ∧ OnlyChanges [.cfg, .ltx] s t ∧
        t.ltx = (if t.cfg.ctsCheck = false ∧ s.ltx.st = .held then { s.ltx with st := .idle } else s.ltx) ∧
        (a = 28 → t.cfg = { s.cfg with syncPattern := w }) ∧ (a = 29 → t.cfg = { s.cfg with syncMask := w }) ∧
        (a = 30 → t.cfg = { s.cfg with syncLen := t.cfg.syncLen, addrWide := w.getLsbD 8, crc := t.cfg.crc } ∧
          t.cfg.syncLen.toNat = max 1 (min 4 (at' 0 3)) ∧
          t.cfg.crc = (match at' 16 2 with | 0 => .none | 1 => .crc16 | _ => .crc32)) ∧
        (a = 31 → t.cfg = { s.cfg with station := w.extractLsb' 0 16, stationMask := w.extractLsb' 16 16 }) ∧
        (a = 32 → t.cfg = { s.cfg with group := w.extractLsb' 0 16, groupMask := w.extractLsb' 16 16 }) ∧
        (a = 33 → t.cfg = { s.cfg with peer := w.extractLsb' 0 16 }) ∧
        (a = 34 → t.cfg = { s.cfg with
            rxLimit := t.cfg.rxLimit, kBad := t.cfg.kBad, kGood := t.cfg.kGood, tSilent := w.extractLsb' 16 8 } ∧
          t.cfg.rxLimit.toNat = max 1 (min 250 (at' 0 8)) ∧ t.cfg.kBad.toNat = max 1 (at' 8 4) ∧
          t.cfg.kGood.toNat = max 1 (at' 12 4)) ∧
        (a = 35 → t.cfg = { s.cfg with
          idleFill := w.extractLsb' 0 8, gap := w.extractLsb' 8 4, ctsCheck := w.getLsbD 16 }) ∧
        (a = 36 → t.cfg = { s.cfg with
            failLimit := t.cfg.failLimit, repairDepth := w.extractLsb' 4 2, ackEnable := w.getLsbD 8
            optimistic := w.extractLsb' 12 3 } ∧ t.cfg.failLimit.toNat = max 1 (at' 0 3)) ∧
        (a = 37 → t.cfg = { s.cfg with
          degThreshold := w.extractLsb' 0 8, rxIdle := w.extractLsb' 8 8, txIdle := w.extractLsb' 16 8
          statLimit := w.extractLsb' 24 8 })) ∧
    (∃ t, exec (.configurationWrite 4 w) s = .next t ∧ OnlyChanges [.stat] s t ∧
      t.stat = { s.stat with evEnable := w.extractLsb' 0 14, alEnable := w.extractLsb' 16 3 }) ∧
    (∃ t, exec (.configurationWrite 11 w) s = .next t ∧ OnlyChanges [.cu] s t ∧ t.cu = { s.cu with argument := w }) ∧
    (∃ t, exec (.configurationWrite 25 w) s = .next t ∧ OnlyChanges [.timer] s t ∧
      t.timer = { s.timer with count := w }) ∧
    (∃ t, exec (.configurationWrite 26 w) s = .next t ∧ OnlyChanges [.timer] s t ∧
      t.timer = { s.timer with reload := w }) ∧
    (∃ t, exec (.configurationWrite 41 w) s = .next t ∧ OnlyChanges [.stats] s t ∧
      t.stats = { s.stats with sel := w.extractLsb' 0 5, selSnap := w.getLsbD 8 }) ∧
    (∀ a : BitVec 6, a.toNat ∈ [0, 2, 6, 7, 12, 23, 39, 40, 42, 43] ∨ 44 ≤ a.toNat →
      exec (.configurationWrite a w) s = .next s) ∧
    let k : BankId := if w.getLsbD 4 then .b else .a
    let j : TableId := match (w.extractLsb' 0 2).toNat with | 0 => .c | 1 => .s | _ => .t
    ∃ t, exec (.tableSelect w) s = .next t ∧ OnlyChanges [.banks] s t ∧ t.banks.selBank = k ∧ t.banks.selTable = j ∧
      t.banks.selected = ⟨((s.banks.get k).get j).table, 0⟩ ∧
      (∀ i l, i ≠ k ∨ l ≠ j → (t.banks.get i).get l = (s.banks.get i).get l) ∧
      (∀ i, (t.banks.get i).st = (s.banks.get i).st) ∧
      let bit := fun b : Bool => (if b then 1 else 0 : BitVec 1)
      s.readWord 1 = (0#30 ++ bit s.ltx.enable ++ bit s.lrx.enable : BitVec 32) ∧
      s.readWord 4 = (0#13 ++ s.stat.alEnable ++ 0#2 ++ s.stat.evEnable : BitVec 32) ∧
      s.readWord 11 = s.cu.argument ∧
      (∀ (a : BitVec 6) (n : Fin 8), a.toNat = 13 + n.val → s.readWord a = s.cu.window[n]) ∧
      s.readWord 21 = (0#27 ++ bit (decide (s.banks.selBank = .b)) ++ 0#2 ++
        (match s.banks.selTable with | .c => 0 | .s => 1 | .t => 2 : BitVec 2) : BitVec 32) ∧
      s.readWord 25 = s.timer.count ∧ s.readWord 26 = s.timer.reload ∧
      s.readWord 27 = (0#31 ++ bit s.timer.run : BitVec 32) ∧
      s.readWord 28 = s.cfg.syncPattern ∧ s.readWord 29 = s.cfg.syncMask ∧
      s.readWord 30 = (0#14 ++ (match s.cfg.crc with | .none => 0 | .crc16 => 1 | .crc32 => 2 : BitVec 2) ++ 0#7 ++
        bit s.cfg.addrWide ++ 0#5 ++ s.cfg.syncLen : BitVec 32) ∧
      s.readWord 31 = (s.cfg.stationMask ++ s.cfg.station : BitVec 32) ∧
      s.readWord 32 = (s.cfg.groupMask ++ s.cfg.group : BitVec 32) ∧ s.readWord 33 = (0#16 ++ s.cfg.peer : BitVec 32) ∧
      s.readWord 34 = (0#8 ++ s.cfg.tSilent ++ s.cfg.kGood ++ s.cfg.kBad ++ s.cfg.rxLimit : BitVec 32) ∧
      s.readWord 35 = (0#15 ++ bit s.cfg.ctsCheck ++ 0#4 ++ s.cfg.gap ++ s.cfg.idleFill : BitVec 32) ∧
      s.readWord 36 = (0#17 ++ s.cfg.optimistic ++ 0#3 ++ bit s.cfg.ackEnable ++ 0#2 ++ s.cfg.repairDepth ++ 0#1 ++
        s.cfg.failLimit : BitVec 32) ∧
      s.readWord 37 = (s.cfg.statLimit ++ s.cfg.txIdle ++ s.cfg.rxIdle ++ s.cfg.degThreshold : BitVec 32) ∧
      ∀ a : BitVec 6, (a = 8 ∨ a = 10 ∨ 43 ≤ a.toNat) → s.readWord a = 0

end
end

