-- ==== Sys2Proof/Laws/State.lean ====
section
/-! SUPPORT. For each named update of the state, what each field reads after it. -/

namespace Sys2Proof.Machine

/-- Two states that agree on every block are equal. -/
theorem State.ext_blocks {s t : State}
    (h_pending : t.pending = s.pending)
    (h_pins : t.pins = s.pins)
    (h_cfg : t.cfg = s.cfg)
    (h_banks : t.banks = s.banks)
    (h_store : t.store = s.store)
    (h_arb : t.arb = s.arb)
    (h_exp : t.exp = s.exp)
    (h_comp : t.comp = s.comp)
    (h_fbq : t.fbq = s.fbq)
    (h_lrx : t.lrx = s.lrx)
    (h_ltx : t.ltx = s.ltx)
    (h_timer : t.timer = s.timer)
    (h_sweep : t.sweep = s.sweep)
    (h_stats : t.stats = s.stats)
    (h_host : t.host = s.host)
    (h_cu : t.cu = s.cu)
    (h_stat : t.stat = s.stat) : t = s := by
  cases s; cases t; simp_all

section
variable (v w : List Instr) (s : State)
@[simp] theorem State.setPending_pending : (s.setPending v).pending = v := rfl
@[simp] theorem State.setPending_pins : (s.setPending v).pins = s.pins := rfl
@[simp] theorem State.setPending_cfg : (s.setPending v).cfg = s.cfg := rfl
@[simp] theorem State.setPending_banks : (s.setPending v).banks = s.banks := rfl
@[simp] theorem State.setPending_store : (s.setPending v).store = s.store := rfl
@[simp] theorem State.setPending_arb : (s.setPending v).arb = s.arb := rfl
@[simp] theorem State.setPending_exp : (s.setPending v).exp = s.exp := rfl
@[simp] theorem State.setPending_comp : (s.setPending v).comp = s.comp := rfl
@[simp] theorem State.setPending_fbq : (s.setPending v).fbq = s.fbq := rfl
@[simp] theorem State.setPending_lrx : (s.setPending v).lrx = s.lrx := rfl
@[simp] theorem State.setPending_ltx : (s.setPending v).ltx = s.ltx := rfl
@[simp] theorem State.setPending_timer : (s.setPending v).timer = s.timer := rfl
@[simp] theorem State.setPending_sweep : (s.setPending v).sweep = s.sweep := rfl
@[simp] theorem State.setPending_stats : (s.setPending v).stats = s.stats := rfl
@[simp] theorem State.setPending_host : (s.setPending v).host = s.host := rfl
@[simp] theorem State.setPending_cu : (s.setPending v).cu = s.cu := rfl
@[simp] theorem State.setPending_stat : (s.setPending v).stat = s.stat := rfl
@[simp] theorem State.setPending_setPending : (s.setPending v).setPending w = s.setPending w := rfl
@[simp] theorem State.setPending_self : s.setPending s.pending = s := rfl
end

section
variable (v w : Pins) (s : State)
@[simp] theorem State.setPins_pending : (s.setPins v).pending = s.pending := rfl
@[simp] theorem State.setPins_pins : (s.setPins v).pins = v := rfl
@[simp] theorem State.setPins_cfg : (s.setPins v).cfg = s.cfg := rfl
@[simp] theorem State.setPins_banks : (s.setPins v).banks = s.banks := rfl
@[simp] theorem State.setPins_store : (s.setPins v).store = s.store := rfl
@[simp] theorem State.setPins_arb : (s.setPins v).arb = s.arb := rfl
@[simp] theorem State.setPins_exp : (s.setPins v).exp = s.exp := rfl
@[simp] theorem State.setPins_comp : (s.setPins v).comp = s.comp := rfl
@[simp] theorem State.setPins_fbq : (s.setPins v).fbq = s.fbq := rfl
@[simp] theorem State.setPins_lrx : (s.setPins v).lrx = s.lrx := rfl
@[simp] theorem State.setPins_ltx : (s.setPins v).ltx = s.ltx := rfl
@[simp] theorem State.setPins_timer : (s.setPins v).timer = s.timer := rfl
@[simp] theorem State.setPins_sweep : (s.setPins v).sweep = s.sweep := rfl
@[simp] theorem State.setPins_stats : (s.setPins v).stats = s.stats := rfl
@[simp] theorem State.setPins_host : (s.setPins v).host = s.host := rfl
@[simp] theorem State.setPins_cu : (s.setPins v).cu = s.cu := rfl
@[simp] theorem State.setPins_stat : (s.setPins v).stat = s.stat := rfl
@[simp] theorem State.setPins_setPins : (s.setPins v).setPins w = s.setPins w := rfl
@[simp] theorem State.setPins_self : s.setPins s.pins = s := rfl
end

section
variable (v w : Settings) (s : State)
@[simp] theorem State.setCfg_pending : (s.setCfg v).pending = s.pending := rfl
@[simp] theorem State.setCfg_pins : (s.setCfg v).pins = s.pins := rfl
@[simp] theorem State.setCfg_cfg : (s.setCfg v).cfg = v := rfl
@[simp] theorem State.setCfg_banks : (s.setCfg v).banks = s.banks := rfl
@[simp] theorem State.setCfg_store : (s.setCfg v).store = s.store := rfl
@[simp] theorem State.setCfg_arb : (s.setCfg v).arb = s.arb := rfl
@[simp] theorem State.setCfg_exp : (s.setCfg v).exp = s.exp := rfl
@[simp] theorem State.setCfg_comp : (s.setCfg v).comp = s.comp := rfl
@[simp] theorem State.setCfg_fbq : (s.setCfg v).fbq = s.fbq := rfl
@[simp] theorem State.setCfg_lrx : (s.setCfg v).lrx = s.lrx := rfl
@[simp] theorem State.setCfg_ltx : (s.setCfg v).ltx = s.ltx := rfl
@[simp] theorem State.setCfg_timer : (s.setCfg v).timer = s.timer := rfl
@[simp] theorem State.setCfg_sweep : (s.setCfg v).sweep = s.sweep := rfl
@[simp] theorem State.setCfg_stats : (s.setCfg v).stats = s.stats := rfl
@[simp] theorem State.setCfg_host : (s.setCfg v).host = s.host := rfl
@[simp] theorem State.setCfg_cu : (s.setCfg v).cu = s.cu := rfl
@[simp] theorem State.setCfg_stat : (s.setCfg v).stat = s.stat := rfl
@[simp] theorem State.setCfg_setCfg : (s.setCfg v).setCfg w = s.setCfg w := rfl
@[simp] theorem State.setCfg_self : s.setCfg s.cfg = s := rfl
end

section
variable (v w : Banks) (s : State)
@[simp] theorem State.setBanks_pending : (s.setBanks v).pending = s.pending := rfl
@[simp] theorem State.setBanks_pins : (s.setBanks v).pins = s.pins := rfl
@[simp] theorem State.setBanks_cfg : (s.setBanks v).cfg = s.cfg := rfl
@[simp] theorem State.setBanks_banks : (s.setBanks v).banks = v := rfl
@[simp] theorem State.setBanks_store : (s.setBanks v).store = s.store := rfl
@[simp] theorem State.setBanks_arb : (s.setBanks v).arb = s.arb := rfl
@[simp] theorem State.setBanks_exp : (s.setBanks v).exp = s.exp := rfl
@[simp] theorem State.setBanks_comp : (s.setBanks v).comp = s.comp := rfl
@[simp] theorem State.setBanks_fbq : (s.setBanks v).fbq = s.fbq := rfl
@[simp] theorem State.setBanks_lrx : (s.setBanks v).lrx = s.lrx := rfl
@[simp] theorem State.setBanks_ltx : (s.setBanks v).ltx = s.ltx := rfl
@[simp] theorem State.setBanks_timer : (s.setBanks v).timer = s.timer := rfl
@[simp] theorem State.setBanks_sweep : (s.setBanks v).sweep = s.sweep := rfl
@[simp] theorem State.setBanks_stats : (s.setBanks v).stats = s.stats := rfl
@[simp] theorem State.setBanks_host : (s.setBanks v).host = s.host := rfl
@[simp] theorem State.setBanks_cu : (s.setBanks v).cu = s.cu := rfl
@[simp] theorem State.setBanks_stat : (s.setBanks v).stat = s.stat := rfl
@[simp] theorem State.setBanks_setBanks : (s.setBanks v).setBanks w = s.setBanks w := rfl
@[simp] theorem State.setBanks_self : s.setBanks s.banks = s := rfl
end

section
variable (v w : Store) (s : State)
@[simp] theorem State.setStore_pending : (s.setStore v).pending = s.pending := rfl
@[simp] theorem State.setStore_pins : (s.setStore v).pins = s.pins := rfl
@[simp] theorem State.setStore_cfg : (s.setStore v).cfg = s.cfg := rfl
@[simp] theorem State.setStore_banks : (s.setStore v).banks = s.banks := rfl
@[simp] theorem State.setStore_store : (s.setStore v).store = v := rfl
@[simp] theorem State.setStore_arb : (s.setStore v).arb = s.arb := rfl
@[simp] theorem State.setStore_exp : (s.setStore v).exp = s.exp := rfl
@[simp] theorem State.setStore_comp : (s.setStore v).comp = s.comp := rfl
@[simp] theorem State.setStore_fbq : (s.setStore v).fbq = s.fbq := rfl
@[simp] theorem State.setStore_lrx : (s.setStore v).lrx = s.lrx := rfl
@[simp] theorem State.setStore_ltx : (s.setStore v).ltx = s.ltx := rfl
@[simp] theorem State.setStore_timer : (s.setStore v).timer = s.timer := rfl
@[simp] theorem State.setStore_sweep : (s.setStore v).sweep = s.sweep := rfl
@[simp] theorem State.setStore_stats : (s.setStore v).stats = s.stats := rfl
@[simp] theorem State.setStore_host : (s.setStore v).host = s.host := rfl
@[simp] theorem State.setStore_cu : (s.setStore v).cu = s.cu := rfl
@[simp] theorem State.setStore_stat : (s.setStore v).stat = s.stat := rfl
@[simp] theorem State.setStore_setStore : (s.setStore v).setStore w = s.setStore w := rfl
@[simp] theorem State.setStore_self : s.setStore s.store = s := rfl
end

section
variable (v w : Arbiter) (s : State)
@[simp] theorem State.setArb_pending : (s.setArb v).pending = s.pending := rfl
@[simp] theorem State.setArb_pins : (s.setArb v).pins = s.pins := rfl
@[simp] theorem State.setArb_cfg : (s.setArb v).cfg = s.cfg := rfl
@[simp] theorem State.setArb_banks : (s.setArb v).banks = s.banks := rfl
@[simp] theorem State.setArb_store : (s.setArb v).store = s.store := rfl
@[simp] theorem State.setArb_arb : (s.setArb v).arb = v := rfl
@[simp] theorem State.setArb_exp : (s.setArb v).exp = s.exp := rfl
@[simp] theorem State.setArb_comp : (s.setArb v).comp = s.comp := rfl
@[simp] theorem State.setArb_fbq : (s.setArb v).fbq = s.fbq := rfl
@[simp] theorem State.setArb_lrx : (s.setArb v).lrx = s.lrx := rfl
@[simp] theorem State.setArb_ltx : (s.setArb v).ltx = s.ltx := rfl
@[simp] theorem State.setArb_timer : (s.setArb v).timer = s.timer := rfl
@[simp] theorem State.setArb_sweep : (s.setArb v).sweep = s.sweep := rfl
@[simp] theorem State.setArb_stats : (s.setArb v).stats = s.stats := rfl
@[simp] theorem State.setArb_host : (s.setArb v).host = s.host := rfl
@[simp] theorem State.setArb_cu : (s.setArb v).cu = s.cu := rfl
@[simp] theorem State.setArb_stat : (s.setArb v).stat = s.stat := rfl
@[simp] theorem State.setArb_setArb : (s.setArb v).setArb w = s.setArb w := rfl
@[simp] theorem State.setArb_self : s.setArb s.arb = s := rfl
end

section
variable (v w : ExpState) (s : State)
@[simp] theorem State.setExp_pending : (s.setExp v).pending = s.pending := rfl
@[simp] theorem State.setExp_pins : (s.setExp v).pins = s.pins := rfl
@[simp] theorem State.setExp_cfg : (s.setExp v).cfg = s.cfg := rfl
@[simp] theorem State.setExp_banks : (s.setExp v).banks = s.banks := rfl
@[simp] theorem State.setExp_store : (s.setExp v).store = s.store := rfl
@[simp] theorem State.setExp_arb : (s.setExp v).arb = s.arb := rfl
@[simp] theorem State.setExp_exp : (s.setExp v).exp = v := rfl
@[simp] theorem State.setExp_comp : (s.setExp v).comp = s.comp := rfl
@[simp] theorem State.setExp_fbq : (s.setExp v).fbq = s.fbq := rfl
@[simp] theorem State.setExp_lrx : (s.setExp v).lrx = s.lrx := rfl
@[simp] theorem State.setExp_ltx : (s.setExp v).ltx = s.ltx := rfl
@[simp] theorem State.setExp_timer : (s.setExp v).timer = s.timer := rfl
@[simp] theorem State.setExp_sweep : (s.setExp v).sweep = s.sweep := rfl
@[simp] theorem State.setExp_stats : (s.setExp v).stats = s.stats := rfl
@[simp] theorem State.setExp_host : (s.setExp v).host = s.host := rfl
@[simp] theorem State.setExp_cu : (s.setExp v).cu = s.cu := rfl
@[simp] theorem State.setExp_stat : (s.setExp v).stat = s.stat := rfl
@[simp] theorem State.setExp_setExp : (s.setExp v).setExp w = s.setExp w := rfl
@[simp] theorem State.setExp_self : s.setExp s.exp = s := rfl
end

section
variable (v w : Compressor) (s : State)
@[simp] theorem State.setComp_pending : (s.setComp v).pending = s.pending := rfl
@[simp] theorem State.setComp_pins : (s.setComp v).pins = s.pins := rfl
@[simp] theorem State.setComp_cfg : (s.setComp v).cfg = s.cfg := rfl
@[simp] theorem State.setComp_banks : (s.setComp v).banks = s.banks := rfl
@[simp] theorem State.setComp_store : (s.setComp v).store = s.store := rfl
@[simp] theorem State.setComp_arb : (s.setComp v).arb = s.arb := rfl
@[simp] theorem State.setComp_exp : (s.setComp v).exp = s.exp := rfl
@[simp] theorem State.setComp_comp : (s.setComp v).comp = v := rfl
@[simp] theorem State.setComp_fbq : (s.setComp v).fbq = s.fbq := rfl
@[simp] theorem State.setComp_lrx : (s.setComp v).lrx = s.lrx := rfl
@[simp] theorem State.setComp_ltx : (s.setComp v).ltx = s.ltx := rfl
@[simp] theorem State.setComp_timer : (s.setComp v).timer = s.timer := rfl
@[simp] theorem State.setComp_sweep : (s.setComp v).sweep = s.sweep := rfl
@[simp] theorem State.setComp_stats : (s.setComp v).stats = s.stats := rfl
@[simp] theorem State.setComp_host : (s.setComp v).host = s.host := rfl
@[simp] theorem State.setComp_cu : (s.setComp v).cu = s.cu := rfl
@[simp] theorem State.setComp_stat : (s.setComp v).stat = s.stat := rfl
@[simp] theorem State.setComp_setComp : (s.setComp v).setComp w = s.setComp w := rfl
@[simp] theorem State.setComp_self : s.setComp s.comp = s := rfl
end

section
variable (v w : List FbEntry) (s : State)
@[simp] theorem State.setFbq_pending : (s.setFbq v).pending = s.pending := rfl
@[simp] theorem State.setFbq_pins : (s.setFbq v).pins = s.pins := rfl
@[simp] theorem State.setFbq_cfg : (s.setFbq v).cfg = s.cfg := rfl
@[simp] theorem State.setFbq_banks : (s.setFbq v).banks = s.banks := rfl
@[simp] theorem State.setFbq_store : (s.setFbq v).store = s.store := rfl
@[simp] theorem State.setFbq_arb : (s.setFbq v).arb = s.arb := rfl
@[simp] theorem State.setFbq_exp : (s.setFbq v).exp = s.exp := rfl
@[simp] theorem State.setFbq_comp : (s.setFbq v).comp = s.comp := rfl
@[simp] theorem State.setFbq_fbq : (s.setFbq v).fbq = v := rfl
@[simp] theorem State.setFbq_lrx : (s.setFbq v).lrx = s.lrx := rfl
@[simp] theorem State.setFbq_ltx : (s.setFbq v).ltx = s.ltx := rfl
@[simp] theorem State.setFbq_timer : (s.setFbq v).timer = s.timer := rfl
@[simp] theorem State.setFbq_sweep : (s.setFbq v).sweep = s.sweep := rfl
@[simp] theorem State.setFbq_stats : (s.setFbq v).stats = s.stats := rfl
@[simp] theorem State.setFbq_host : (s.setFbq v).host = s.host := rfl
@[simp] theorem State.setFbq_cu : (s.setFbq v).cu = s.cu := rfl
@[simp] theorem State.setFbq_stat : (s.setFbq v).stat = s.stat := rfl
@[simp] theorem State.setFbq_setFbq : (s.setFbq v).setFbq w = s.setFbq w := rfl
@[simp] theorem State.setFbq_self : s.setFbq s.fbq = s := rfl
end

section
variable (v w : LineRx) (s : State)
@[simp] theorem State.setLrx_pending : (s.setLrx v).pending = s.pending := rfl
@[simp] theorem State.setLrx_pins : (s.setLrx v).pins = s.pins := rfl
@[simp] theorem State.setLrx_cfg : (s.setLrx v).cfg = s.cfg := rfl
@[simp] theorem State.setLrx_banks : (s.setLrx v).banks = s.banks := rfl
@[simp] theorem State.setLrx_store : (s.setLrx v).store = s.store := rfl
@[simp] theorem State.setLrx_arb : (s.setLrx v).arb = s.arb := rfl
@[simp] theorem State.setLrx_exp : (s.setLrx v).exp = s.exp := rfl
@[simp] theorem State.setLrx_comp : (s.setLrx v).comp = s.comp := rfl
@[simp] theorem State.setLrx_fbq : (s.setLrx v).fbq = s.fbq := rfl
@[simp] theorem State.setLrx_lrx : (s.setLrx v).lrx = v := rfl
@[simp] theorem State.setLrx_ltx : (s.setLrx v).ltx = s.ltx := rfl
@[simp] theorem State.setLrx_timer : (s.setLrx v).timer = s.timer := rfl
@[simp] theorem State.setLrx_sweep : (s.setLrx v).sweep = s.sweep := rfl
@[simp] theorem State.setLrx_stats : (s.setLrx v).stats = s.stats := rfl
@[simp] theorem State.setLrx_host : (s.setLrx v).host = s.host := rfl
@[simp] theorem State.setLrx_cu : (s.setLrx v).cu = s.cu := rfl
@[simp] theorem State.setLrx_stat : (s.setLrx v).stat = s.stat := rfl
@[simp] theorem State.setLrx_setLrx : (s.setLrx v).setLrx w = s.setLrx w := rfl
@[simp] theorem State.setLrx_self : s.setLrx s.lrx = s := rfl
end

section
variable (v w : LineTx) (s : State)
@[simp] theorem State.setLtx_pending : (s.setLtx v).pending = s.pending := rfl
@[simp] theorem State.setLtx_pins : (s.setLtx v).pins = s.pins := rfl
@[simp] theorem State.setLtx_cfg : (s.setLtx v).cfg = s.cfg := rfl
@[simp] theorem State.setLtx_banks : (s.setLtx v).banks = s.banks := rfl
@[simp] theorem State.setLtx_store : (s.setLtx v).store = s.store := rfl
@[simp] theorem State.setLtx_arb : (s.setLtx v).arb = s.arb := rfl
@[simp] theorem State.setLtx_exp : (s.setLtx v).exp = s.exp := rfl
@[simp] theorem State.setLtx_comp : (s.setLtx v).comp = s.comp := rfl
@[simp] theorem State.setLtx_fbq : (s.setLtx v).fbq = s.fbq := rfl
@[simp] theorem State.setLtx_lrx : (s.setLtx v).lrx = s.lrx := rfl
@[simp] theorem State.setLtx_ltx : (s.setLtx v).ltx = v := rfl
@[simp] theorem State.setLtx_timer : (s.setLtx v).timer = s.timer := rfl
@[simp] theorem State.setLtx_sweep : (s.setLtx v).sweep = s.sweep := rfl
@[simp] theorem State.setLtx_stats : (s.setLtx v).stats = s.stats := rfl
@[simp] theorem State.setLtx_host : (s.setLtx v).host = s.host := rfl
@[simp] theorem State.setLtx_cu : (s.setLtx v).cu = s.cu := rfl
@[simp] theorem State.setLtx_stat : (s.setLtx v).stat = s.stat := rfl
@[simp] theorem State.setLtx_setLtx : (s.setLtx v).setLtx w = s.setLtx w := rfl
@[simp] theorem State.setLtx_self : s.setLtx s.ltx = s := rfl
end

section
variable (v w : Timer) (s : State)
@[simp] theorem State.setTimer_pending : (s.setTimer v).pending = s.pending := rfl
@[simp] theorem State.setTimer_pins : (s.setTimer v).pins = s.pins := rfl
@[simp] theorem State.setTimer_cfg : (s.setTimer v).cfg = s.cfg := rfl
@[simp] theorem State.setTimer_banks : (s.setTimer v).banks = s.banks := rfl
@[simp] theorem State.setTimer_store : (s.setTimer v).store = s.store := rfl
@[simp] theorem State.setTimer_arb : (s.setTimer v).arb = s.arb := rfl
@[simp] theorem State.setTimer_exp : (s.setTimer v).exp = s.exp := rfl
@[simp] theorem State.setTimer_comp : (s.setTimer v).comp = s.comp := rfl
@[simp] theorem State.setTimer_fbq : (s.setTimer v).fbq = s.fbq := rfl
@[simp] theorem State.setTimer_lrx : (s.setTimer v).lrx = s.lrx := rfl
@[simp] theorem State.setTimer_ltx : (s.setTimer v).ltx = s.ltx := rfl
@[simp] theorem State.setTimer_timer : (s.setTimer v).timer = v := rfl
@[simp] theorem State.setTimer_sweep : (s.setTimer v).sweep = s.sweep := rfl
@[simp] theorem State.setTimer_stats : (s.setTimer v).stats = s.stats := rfl
@[simp] theorem State.setTimer_host : (s.setTimer v).host = s.host := rfl
@[simp] theorem State.setTimer_cu : (s.setTimer v).cu = s.cu := rfl
@[simp] theorem State.setTimer_stat : (s.setTimer v).stat = s.stat := rfl
@[simp] theorem State.setTimer_setTimer : (s.setTimer v).setTimer w = s.setTimer w := rfl
@[simp] theorem State.setTimer_self : s.setTimer s.timer = s := rfl
end

section
variable (v w : Sweep) (s : State)
@[simp] theorem State.setSweep_pending : (s.setSweep v).pending = s.pending := rfl
@[simp] theorem State.setSweep_pins : (s.setSweep v).pins = s.pins := rfl
@[simp] theorem State.setSweep_cfg : (s.setSweep v).cfg = s.cfg := rfl
@[simp] theorem State.setSweep_banks : (s.setSweep v).banks = s.banks := rfl
@[simp] theorem State.setSweep_store : (s.setSweep v).store = s.store := rfl
@[simp] theorem State.setSweep_arb : (s.setSweep v).arb = s.arb := rfl
@[simp] theorem State.setSweep_exp : (s.setSweep v).exp = s.exp := rfl
@[simp] theorem State.setSweep_comp : (s.setSweep v).comp = s.comp := rfl
@[simp] theorem State.setSweep_fbq : (s.setSweep v).fbq = s.fbq := rfl
@[simp] theorem State.setSweep_lrx : (s.setSweep v).lrx = s.lrx := rfl
@[simp] theorem State.setSweep_ltx : (s.setSweep v).ltx = s.ltx := rfl
@[simp] theorem State.setSweep_timer : (s.setSweep v).timer = s.timer := rfl
@[simp] theorem State.setSweep_sweep : (s.setSweep v).sweep = v := rfl
@[simp] theorem State.setSweep_stats : (s.setSweep v).stats = s.stats := rfl
@[simp] theorem State.setSweep_host : (s.setSweep v).host = s.host := rfl
@[simp] theorem State.setSweep_cu : (s.setSweep v).cu = s.cu := rfl
@[simp] theorem State.setSweep_stat : (s.setSweep v).stat = s.stat := rfl
@[simp] theorem State.setSweep_setSweep : (s.setSweep v).setSweep w = s.setSweep w := rfl
@[simp] theorem State.setSweep_self : s.setSweep s.sweep = s := rfl
end

section
variable (v w : Stats) (s : State)
@[simp] theorem State.setStats_pending : (s.setStats v).pending = s.pending := rfl
@[simp] theorem State.setStats_pins : (s.setStats v).pins = s.pins := rfl
@[simp] theorem State.setStats_cfg : (s.setStats v).cfg = s.cfg := rfl
@[simp] theorem State.setStats_banks : (s.setStats v).banks = s.banks := rfl
@[simp] theorem State.setStats_store : (s.setStats v).store = s.store := rfl
@[simp] theorem State.setStats_arb : (s.setStats v).arb = s.arb := rfl
@[simp] theorem State.setStats_exp : (s.setStats v).exp = s.exp := rfl
@[simp] theorem State.setStats_comp : (s.setStats v).comp = s.comp := rfl
@[simp] theorem State.setStats_fbq : (s.setStats v).fbq = s.fbq := rfl
@[simp] theorem State.setStats_lrx : (s.setStats v).lrx = s.lrx := rfl
@[simp] theorem State.setStats_ltx : (s.setStats v).ltx = s.ltx := rfl
@[simp] theorem State.setStats_timer : (s.setStats v).timer = s.timer := rfl
@[simp] theorem State.setStats_sweep : (s.setStats v).sweep = s.sweep := rfl
@[simp] theorem State.setStats_stats : (s.setStats v).stats = v := rfl
@[simp] theorem State.setStats_host : (s.setStats v).host = s.host := rfl
@[simp] theorem State.setStats_cu : (s.setStats v).cu = s.cu := rfl
@[simp] theorem State.setStats_stat : (s.setStats v).stat = s.stat := rfl
@[simp] theorem State.setStats_setStats : (s.setStats v).setStats w = s.setStats w := rfl
@[simp] theorem State.setStats_self : s.setStats s.stats = s := rfl
end

section
variable (v w : HostFifos) (s : State)
@[simp] theorem State.setHost_pending : (s.setHost v).pending = s.pending := rfl
@[simp] theorem State.setHost_pins : (s.setHost v).pins = s.pins := rfl
@[simp] theorem State.setHost_cfg : (s.setHost v).cfg = s.cfg := rfl
@[simp] theorem State.setHost_banks : (s.setHost v).banks = s.banks := rfl
@[simp] theorem State.setHost_store : (s.setHost v).store = s.store := rfl
@[simp] theorem State.setHost_arb : (s.setHost v).arb = s.arb := rfl
@[simp] theorem State.setHost_exp : (s.setHost v).exp = s.exp := rfl
@[simp] theorem State.setHost_comp : (s.setHost v).comp = s.comp := rfl
@[simp] theorem State.setHost_fbq : (s.setHost v).fbq = s.fbq := rfl
@[simp] theorem State.setHost_lrx : (s.setHost v).lrx = s.lrx := rfl
@[simp] theorem State.setHost_ltx : (s.setHost v).ltx = s.ltx := rfl
@[simp] theorem State.setHost_timer : (s.setHost v).timer = s.timer := rfl
@[simp] theorem State.setHost_sweep : (s.setHost v).sweep = s.sweep := rfl
@[simp] theorem State.setHost_stats : (s.setHost v).stats = s.stats := rfl
@[simp] theorem State.setHost_host : (s.setHost v).host = v := rfl
@[simp] theorem State.setHost_cu : (s.setHost v).cu = s.cu := rfl
@[simp] theorem State.setHost_stat : (s.setHost v).stat = s.stat := rfl
@[simp] theorem State.setHost_setHost : (s.setHost v).setHost w = s.setHost w := rfl
@[simp] theorem State.setHost_self : s.setHost s.host = s := rfl
end

section
variable (v w : CmdUnit) (s : State)
@[simp] theorem State.setCu_pending : (s.setCu v).pending = s.pending := rfl
@[simp] theorem State.setCu_pins : (s.setCu v).pins = s.pins := rfl
@[simp] theorem State.setCu_cfg : (s.setCu v).cfg = s.cfg := rfl
@[simp] theorem State.setCu_banks : (s.setCu v).banks = s.banks := rfl
@[simp] theorem State.setCu_store : (s.setCu v).store = s.store := rfl
@[simp] theorem State.setCu_arb : (s.setCu v).arb = s.arb := rfl
@[simp] theorem State.setCu_exp : (s.setCu v).exp = s.exp := rfl
@[simp] theorem State.setCu_comp : (s.setCu v).comp = s.comp := rfl
@[simp] theorem State.setCu_fbq : (s.setCu v).fbq = s.fbq := rfl
@[simp] theorem State.setCu_lrx : (s.setCu v).lrx = s.lrx := rfl
@[simp] theorem State.setCu_ltx : (s.setCu v).ltx = s.ltx := rfl
@[simp] theorem State.setCu_timer : (s.setCu v).timer = s.timer := rfl
@[simp] theorem State.setCu_sweep : (s.setCu v).sweep = s.sweep := rfl
@[simp] theorem State.setCu_stats : (s.setCu v).stats = s.stats := rfl
@[simp] theorem State.setCu_host : (s.setCu v).host = s.host := rfl
@[simp] theorem State.setCu_cu : (s.setCu v).cu = v := rfl
@[simp] theorem State.setCu_stat : (s.setCu v).stat = s.stat := rfl
@[simp] theorem State.setCu_setCu : (s.setCu v).setCu w = s.setCu w := rfl
@[simp] theorem State.setCu_self : s.setCu s.cu = s := rfl
end

section
variable (v w : StatusUnit) (s : State)
@[simp] theorem State.setStat_pending : (s.setStat v).pending = s.pending := rfl
@[simp] theorem State.setStat_pins : (s.setStat v).pins = s.pins := rfl
@[simp] theorem State.setStat_cfg : (s.setStat v).cfg = s.cfg := rfl
@[simp] theorem State.setStat_banks : (s.setStat v).banks = s.banks := rfl
@[simp] theorem State.setStat_store : (s.setStat v).store = s.store := rfl
@[simp] theorem State.setStat_arb : (s.setStat v).arb = s.arb := rfl
@[simp] theorem State.setStat_exp : (s.setStat v).exp = s.exp := rfl
@[simp] theorem State.setStat_comp : (s.setStat v).comp = s.comp := rfl
@[simp] theorem State.setStat_fbq : (s.setStat v).fbq = s.fbq := rfl
@[simp] theorem State.setStat_lrx : (s.setStat v).lrx = s.lrx := rfl
@[simp] theorem State.setStat_ltx : (s.setStat v).ltx = s.ltx := rfl
@[simp] theorem State.setStat_timer : (s.setStat v).timer = s.timer := rfl
@[simp] theorem State.setStat_sweep : (s.setStat v).sweep = s.sweep := rfl
@[simp] theorem State.setStat_stats : (s.setStat v).stats = s.stats := rfl
@[simp] theorem State.setStat_host : (s.setStat v).host = s.host := rfl
@[simp] theorem State.setStat_cu : (s.setStat v).cu = s.cu := rfl
@[simp] theorem State.setStat_stat : (s.setStat v).stat = v := rfl
@[simp] theorem State.setStat_setStat : (s.setStat v).setStat w = s.setStat w := rfl
@[simp] theorem State.setStat_self : s.setStat s.stat = s := rfl
end

end Sys2Proof.Machine
end

