-- ==== Sys2Proof/Laws/Frames.lean ====
section
/-! SUPPORT. The frame of each shared operation: the blocks it leaves as they are. -/

namespace Sys2Proof.Machine

@[simp] theorem raise_frame (k : Counter) (s : State) :
    (raise k s).pending = s.pending ∧ (raise k s).pins = s.pins ∧ (raise k s).cfg = s.cfg ∧
    (raise k s).banks = s.banks ∧ (raise k s).store = s.store ∧ (raise k s).arb = s.arb ∧ (raise k s).exp = s.exp ∧
    (raise k s).comp = s.comp ∧ (raise k s).fbq = s.fbq ∧ (raise k s).lrx = s.lrx ∧ (raise k s).ltx = s.ltx ∧
    (raise k s).timer = s.timer ∧ (raise k s).sweep = s.sweep ∧ (raise k s).host = s.host ∧ (raise k s).cu = s.cu ∧
    (raise k s).stat = s.stat := by
  simp [raise]

@[simp] theorem setEvent_frame (e : Event) (s : State) :
    (setEvent e s).pending = s.pending ∧ (setEvent e s).pins = s.pins ∧ (setEvent e s).cfg = s.cfg ∧
    (setEvent e s).banks = s.banks ∧ (setEvent e s).store = s.store ∧ (setEvent e s).arb = s.arb ∧
    (setEvent e s).exp = s.exp ∧ (setEvent e s).comp = s.comp ∧ (setEvent e s).fbq = s.fbq ∧
    (setEvent e s).lrx = s.lrx ∧ (setEvent e s).ltx = s.ltx ∧ (setEvent e s).timer = s.timer ∧
    (setEvent e s).sweep = s.sweep ∧ (setEvent e s).stats = s.stats ∧ (setEvent e s).host = s.host ∧
    (setEvent e s).cu = s.cu := by
  simp [setEvent]

@[simp] theorem setLof_frame (v : Bool) (s : State) :
    (setLof v s).pending = s.pending ∧ (setLof v s).pins = s.pins ∧ (setLof v s).cfg = s.cfg ∧
    (setLof v s).banks = s.banks ∧ (setLof v s).store = s.store ∧ (setLof v s).arb = s.arb ∧
    (setLof v s).exp = s.exp ∧ (setLof v s).comp = s.comp ∧ (setLof v s).fbq = s.fbq ∧ (setLof v s).lrx = s.lrx ∧
    (setLof v s).ltx = s.ltx ∧ (setLof v s).timer = s.timer ∧ (setLof v s).sweep = s.sweep ∧
    (setLof v s).stats = s.stats ∧ (setLof v s).host = s.host ∧ (setLof v s).cu = s.cu := by
  simp [setLof]

@[simp] theorem setSilent_frame (v : Bool) (s : State) :
    (setSilent v s).pending = s.pending ∧ (setSilent v s).pins = s.pins ∧ (setSilent v s).cfg = s.cfg ∧
    (setSilent v s).banks = s.banks ∧ (setSilent v s).store = s.store ∧ (setSilent v s).arb = s.arb ∧
    (setSilent v s).exp = s.exp ∧ (setSilent v s).comp = s.comp ∧ (setSilent v s).fbq = s.fbq ∧
    (setSilent v s).lrx = s.lrx ∧ (setSilent v s).ltx = s.ltx ∧ (setSilent v s).timer = s.timer ∧
    (setSilent v s).sweep = s.sweep ∧ (setSilent v s).stats = s.stats ∧ (setSilent v s).host = s.host ∧
    (setSilent v s).cu = s.cu := by
  simp [setSilent]

@[simp] theorem setDegraded_frame (v : Bool) (s : State) :
    (setDegraded v s).pending = s.pending ∧ (setDegraded v s).pins = s.pins ∧ (setDegraded v s).cfg = s.cfg ∧
    (setDegraded v s).banks = s.banks ∧ (setDegraded v s).store = s.store ∧ (setDegraded v s).arb = s.arb ∧
    (setDegraded v s).exp = s.exp ∧ (setDegraded v s).comp = s.comp ∧ (setDegraded v s).fbq = s.fbq ∧
    (setDegraded v s).lrx = s.lrx ∧ (setDegraded v s).ltx = s.ltx ∧ (setDegraded v s).timer = s.timer ∧
    (setDegraded v s).sweep = s.sweep ∧ (setDegraded v s).stats = s.stats ∧ (setDegraded v s).host = s.host ∧
    (setDegraded v s).cu = s.cu := by
  simp [setDegraded]

@[simp] theorem boundaryNow_frame (s : State) :
    (boundaryNow s).pending = s.pending ∧ (boundaryNow s).pins = s.pins ∧ (boundaryNow s).cfg = s.cfg ∧
    (boundaryNow s).banks = s.banks ∧ (boundaryNow s).arb = s.arb ∧ (boundaryNow s).exp = s.exp ∧
    (boundaryNow s).comp = s.comp ∧ (boundaryNow s).fbq = s.fbq ∧ (boundaryNow s).lrx = s.lrx ∧
    (boundaryNow s).ltx = s.ltx ∧ (boundaryNow s).timer = s.timer ∧ (boundaryNow s).sweep = s.sweep ∧
    (boundaryNow s).host = s.host ∧ (boundaryNow s).cu = s.cu := by
  simp [boundaryNow]

@[simp] theorem arbitrate_frame (s : State) :
    (arbitrate s).pending = s.pending ∧ (arbitrate s).pins = s.pins ∧ (arbitrate s).cfg = s.cfg ∧
    (arbitrate s).banks = s.banks ∧ (arbitrate s).store = s.store ∧ (arbitrate s).exp = s.exp ∧
    (arbitrate s).comp = s.comp ∧ (arbitrate s).fbq = s.fbq ∧ (arbitrate s).lrx = s.lrx ∧ (arbitrate s).ltx = s.ltx ∧
    (arbitrate s).timer = s.timer ∧ (arbitrate s).sweep = s.sweep ∧ (arbitrate s).stats = s.stats ∧
    (arbitrate s).host = s.host ∧ (arbitrate s).cu = s.cu ∧ (arbitrate s).stat = s.stat := by
  unfold arbitrate; split <;> simp

@[simp] theorem request_frame (q : Requester) (s : State) :
    (request q s).pending = s.pending ∧ (request q s).pins = s.pins ∧ (request q s).cfg = s.cfg ∧
    (request q s).banks = s.banks ∧ (request q s).store = s.store ∧ (request q s).exp = s.exp ∧
    (request q s).comp = s.comp ∧ (request q s).fbq = s.fbq ∧ (request q s).lrx = s.lrx ∧ (request q s).ltx = s.ltx ∧
    (request q s).timer = s.timer ∧ (request q s).sweep = s.sweep ∧ (request q s).stats = s.stats ∧
    (request q s).host = s.host ∧ (request q s).cu = s.cu ∧ (request q s).stat = s.stat := by
  simp [request]

@[simp] theorem endTransaction_frame (s : State) :
    (endTransaction s).pending = s.pending ∧ (endTransaction s).pins = s.pins ∧ (endTransaction s).cfg = s.cfg ∧
    (endTransaction s).banks = s.banks ∧ (endTransaction s).store = s.store ∧ (endTransaction s).exp = s.exp ∧
    (endTransaction s).comp = s.comp ∧ (endTransaction s).fbq = s.fbq ∧ (endTransaction s).lrx = s.lrx ∧
    (endTransaction s).ltx = s.ltx ∧ (endTransaction s).timer = s.timer ∧ (endTransaction s).sweep = s.sweep ∧
    (endTransaction s).stats = s.stats ∧ (endTransaction s).host = s.host ∧ (endTransaction s).cu = s.cu ∧
    (endTransaction s).stat = s.stat := by
  simp [endTransaction]

@[simp] theorem endAndRequest_frame (q : Requester) (s : State) :
    (endAndRequest q s).pending = s.pending ∧ (endAndRequest q s).pins = s.pins ∧ (endAndRequest q s).cfg = s.cfg ∧
    (endAndRequest q s).banks = s.banks ∧ (endAndRequest q s).store = s.store ∧ (endAndRequest q s).exp = s.exp ∧
    (endAndRequest q s).comp = s.comp ∧ (endAndRequest q s).fbq = s.fbq ∧ (endAndRequest q s).lrx = s.lrx ∧
    (endAndRequest q s).ltx = s.ltx ∧ (endAndRequest q s).timer = s.timer ∧ (endAndRequest q s).sweep = s.sweep ∧
    (endAndRequest q s).stats = s.stats ∧ (endAndRequest q s).host = s.host ∧ (endAndRequest q s).cu = s.cu ∧
    (endAndRequest q s).stat = s.stat := by
  simp [endAndRequest]

@[simp] theorem monitorRx_frame (n : Ctx) (s : State) :
    (monitorRx n s).pending = s.pending ∧ (monitorRx n s).pins = s.pins ∧ (monitorRx n s).cfg = s.cfg ∧
    (monitorRx n s).banks = s.banks ∧ (monitorRx n s).store = s.store ∧ (monitorRx n s).arb = s.arb ∧
    (monitorRx n s).exp = s.exp ∧ (monitorRx n s).comp = s.comp ∧ (monitorRx n s).fbq = s.fbq ∧
    (monitorRx n s).lrx = s.lrx ∧ (monitorRx n s).ltx = s.ltx ∧ (monitorRx n s).timer = s.timer ∧
    (monitorRx n s).sweep = s.sweep ∧ (monitorRx n s).stats = s.stats ∧ (monitorRx n s).host = s.host ∧
    (monitorRx n s).cu = s.cu := by
  unfold monitorRx; split <;> simp

@[simp] theorem monitorTx_frame (n : Ctx) (s : State) :
    (monitorTx n s).pending = s.pending ∧ (monitorTx n s).pins = s.pins ∧ (monitorTx n s).cfg = s.cfg ∧
    (monitorTx n s).banks = s.banks ∧ (monitorTx n s).store = s.store ∧ (monitorTx n s).arb = s.arb ∧
    (monitorTx n s).exp = s.exp ∧ (monitorTx n s).comp = s.comp ∧ (monitorTx n s).fbq = s.fbq ∧
    (monitorTx n s).lrx = s.lrx ∧ (monitorTx n s).ltx = s.ltx ∧ (monitorTx n s).timer = s.timer ∧
    (monitorTx n s).sweep = s.sweep ∧ (monitorTx n s).stats = s.stats ∧ (monitorTx n s).host = s.host ∧
    (monitorTx n s).cu = s.cu := by
  unfold monitorTx; split <;> simp

@[simp] theorem writeRx_frame (n : Ctx) (st : RxState) (c : Contents) (s : State) :
    (writeRx n st c s).pending = s.pending ∧ (writeRx n st c s).pins = s.pins ∧ (writeRx n st c s).cfg = s.cfg ∧
    (writeRx n st c s).banks = s.banks ∧ (writeRx n st c s).arb = s.arb ∧ (writeRx n st c s).exp = s.exp ∧
    (writeRx n st c s).comp = s.comp ∧ (writeRx n st c s).fbq = s.fbq ∧ (writeRx n st c s).lrx = s.lrx ∧
    (writeRx n st c s).ltx = s.ltx ∧ (writeRx n st c s).timer = s.timer ∧ (writeRx n st c s).sweep = s.sweep ∧
    (writeRx n st c s).stats = s.stats ∧ (writeRx n st c s).host = s.host ∧ (writeRx n st c s).cu = s.cu := by
  simp [writeRx]

@[simp] theorem writeTx_frame (n : Ctx) (st : TxState) (c : Contents) (s : State) :
    (writeTx n st c s).pending = s.pending ∧ (writeTx n st c s).pins = s.pins ∧ (writeTx n st c s).cfg = s.cfg ∧
    (writeTx n st c s).banks = s.banks ∧ (writeTx n st c s).arb = s.arb ∧ (writeTx n st c s).exp = s.exp ∧
    (writeTx n st c s).comp = s.comp ∧ (writeTx n st c s).fbq = s.fbq ∧ (writeTx n st c s).lrx = s.lrx ∧
    (writeTx n st c s).ltx = s.ltx ∧ (writeTx n st c s).timer = s.timer ∧ (writeTx n st c s).sweep = s.sweep ∧
    (writeTx n st c s).stats = s.stats ∧ (writeTx n st c s).host = s.host ∧ (writeTx n st c s).cu = s.cu := by
  simp [writeTx]

@[simp] theorem setSlot_frame (b : BitVec 6) (i : Fin 4) (x : Option Slot) (s : State) :
    (setSlot b i x s).pending = s.pending ∧ (setSlot b i x s).pins = s.pins ∧ (setSlot b i x s).cfg = s.cfg ∧
    (setSlot b i x s).banks = s.banks ∧ (setSlot b i x s).arb = s.arb ∧ (setSlot b i x s).exp = s.exp ∧
    (setSlot b i x s).comp = s.comp ∧ (setSlot b i x s).fbq = s.fbq ∧ (setSlot b i x s).lrx = s.lrx ∧
    (setSlot b i x s).ltx = s.ltx ∧ (setSlot b i x s).timer = s.timer ∧ (setSlot b i x s).sweep = s.sweep ∧
    (setSlot b i x s).stats = s.stats ∧ (setSlot b i x s).host = s.host ∧ (setSlot b i x s).cu = s.cu ∧
    (setSlot b i x s).stat = s.stat := by
  simp [setSlot]

@[simp] theorem setRef_frame (n : Ctx) (x : Option SlotRef) (s : State) :
    (setRef n x s).pending = s.pending ∧ (setRef n x s).pins = s.pins ∧ (setRef n x s).cfg = s.cfg ∧
    (setRef n x s).banks = s.banks ∧ (setRef n x s).arb = s.arb ∧ (setRef n x s).exp = s.exp ∧
    (setRef n x s).comp = s.comp ∧ (setRef n x s).fbq = s.fbq ∧ (setRef n x s).lrx = s.lrx ∧
    (setRef n x s).ltx = s.ltx ∧ (setRef n x s).timer = s.timer ∧ (setRef n x s).sweep = s.sweep ∧
    (setRef n x s).stats = s.stats ∧ (setRef n x s).host = s.host ∧ (setRef n x s).cu = s.cu ∧
    (setRef n x s).stat = s.stat := by
  simp [setRef]

@[simp] theorem setFree_frame (n : Ctx) (x : Bool) (s : State) :
    (setFree n x s).pending = s.pending ∧ (setFree n x s).pins = s.pins ∧ (setFree n x s).cfg = s.cfg ∧
    (setFree n x s).banks = s.banks ∧ (setFree n x s).arb = s.arb ∧ (setFree n x s).exp = s.exp ∧
    (setFree n x s).comp = s.comp ∧ (setFree n x s).fbq = s.fbq ∧ (setFree n x s).lrx = s.lrx ∧
    (setFree n x s).ltx = s.ltx ∧ (setFree n x s).timer = s.timer ∧ (setFree n x s).sweep = s.sweep ∧
    (setFree n x s).stats = s.stats ∧ (setFree n x s).host = s.host ∧ (setFree n x s).cu = s.cu ∧
    (setFree n x s).stat = s.stat := by
  simp [setFree]

@[simp] theorem dropSlot_frame (n : Ctx) (s : State) :
    (dropSlot n s).pending = s.pending ∧ (dropSlot n s).pins = s.pins ∧ (dropSlot n s).cfg = s.cfg ∧
    (dropSlot n s).banks = s.banks ∧ (dropSlot n s).arb = s.arb ∧ (dropSlot n s).exp = s.exp ∧
    (dropSlot n s).comp = s.comp ∧ (dropSlot n s).fbq = s.fbq ∧ (dropSlot n s).lrx = s.lrx ∧
    (dropSlot n s).ltx = s.ltx ∧ (dropSlot n s).timer = s.timer ∧ (dropSlot n s).sweep = s.sweep ∧
    (dropSlot n s).stats = s.stats ∧ (dropSlot n s).host = s.host ∧ (dropSlot n s).cu = s.cu ∧
    (dropSlot n s).stat = s.stat := by
  unfold dropSlot; split <;> simp

@[simp] theorem fillSlot_frame (n : Ctx) (b : BitVec 6) (i : Fin 4) (g : Byte) (s : State) :
    (fillSlot n b i g s).pending = s.pending ∧ (fillSlot n b i g s).pins = s.pins ∧
    (fillSlot n b i g s).cfg = s.cfg ∧ (fillSlot n b i g s).banks = s.banks ∧ (fillSlot n b i g s).arb = s.arb ∧
    (fillSlot n b i g s).exp = s.exp ∧ (fillSlot n b i g s).comp = s.comp ∧ (fillSlot n b i g s).fbq = s.fbq ∧
    (fillSlot n b i g s).lrx = s.lrx ∧ (fillSlot n b i g s).ltx = s.ltx ∧ (fillSlot n b i g s).timer = s.timer ∧
    (fillSlot n b i g s).sweep = s.sweep ∧ (fillSlot n b i g s).stats = s.stats ∧
    (fillSlot n b i g s).host = s.host ∧ (fillSlot n b i g s).cu = s.cu ∧ (fillSlot n b i g s).stat = s.stat := by
  simp [fillSlot]

@[simp] theorem freeTxRecord_frame (n : Ctx) (s : State) :
    (freeTxRecord n s).pending = s.pending ∧ (freeTxRecord n s).pins = s.pins ∧ (freeTxRecord n s).cfg = s.cfg ∧
    (freeTxRecord n s).banks = s.banks ∧ (freeTxRecord n s).arb = s.arb ∧ (freeTxRecord n s).exp = s.exp ∧
    (freeTxRecord n s).comp = s.comp ∧ (freeTxRecord n s).fbq = s.fbq ∧ (freeTxRecord n s).lrx = s.lrx ∧
    (freeTxRecord n s).ltx = s.ltx ∧ (freeTxRecord n s).timer = s.timer ∧ (freeTxRecord n s).sweep = s.sweep ∧
    (freeTxRecord n s).stats = s.stats ∧ (freeTxRecord n s).host = s.host ∧ (freeTxRecord n s).cu = s.cu := by
  simp [freeTxRecord]

@[simp] theorem reportError_frame (k : Capture) (s : State) :
    (reportError k s).pending = s.pending ∧ (reportError k s).pins = s.pins ∧ (reportError k s).cfg = s.cfg ∧
    (reportError k s).banks = s.banks ∧ (reportError k s).arb = s.arb ∧ (reportError k s).exp = s.exp ∧
    (reportError k s).comp = s.comp ∧ (reportError k s).fbq = s.fbq ∧ (reportError k s).lrx = s.lrx ∧
    (reportError k s).ltx = s.ltx ∧ (reportError k s).timer = s.timer ∧ (reportError k s).sweep = s.sweep ∧
    (reportError k s).stats = s.stats ∧ (reportError k s).host = s.host ∧ (reportError k s).cu = s.cu ∧
    (reportError k s).stat = s.stat := by
  unfold reportError; (repeat' split) <;> simp

@[simp] theorem degrade_frame (s : State) :
    (degrade s).pending = s.pending ∧ (degrade s).pins = s.pins ∧ (degrade s).cfg = s.cfg ∧
    (degrade s).banks = s.banks ∧ (degrade s).arb = s.arb ∧ (degrade s).exp = s.exp ∧ (degrade s).comp = s.comp ∧
    (degrade s).fbq = s.fbq ∧ (degrade s).lrx = s.lrx ∧ (degrade s).ltx = s.ltx ∧ (degrade s).timer = s.timer ∧
    (degrade s).sweep = s.sweep ∧ (degrade s).stats = s.stats ∧ (degrade s).host = s.host ∧ (degrade s).cu = s.cu := by
  unfold degrade; split <;> simp

@[simp] theorem noteCorrected_frame (d : Dir) (n : Ctx) (q : Requester) (s : State) :
    (noteCorrected d n q s).pending = s.pending ∧ (noteCorrected d n q s).pins = s.pins ∧
    (noteCorrected d n q s).cfg = s.cfg ∧ (noteCorrected d n q s).banks = s.banks ∧
    (noteCorrected d n q s).arb = s.arb ∧ (noteCorrected d n q s).exp = s.exp ∧
    (noteCorrected d n q s).comp = s.comp ∧ (noteCorrected d n q s).fbq = s.fbq ∧
    (noteCorrected d n q s).lrx = s.lrx ∧ (noteCorrected d n q s).ltx = s.ltx ∧
    (noteCorrected d n q s).timer = s.timer ∧ (noteCorrected d n q s).sweep = s.sweep ∧
    (noteCorrected d n q s).host = s.host ∧ (noteCorrected d n q s).cu = s.cu := by
  simp [noteCorrected]

@[simp] theorem noteUncorrected_frame (d : Dir) (n : Ctx) (q : Requester) (s : State) :
    (noteUncorrected d n q s).pending = s.pending ∧ (noteUncorrected d n q s).pins = s.pins ∧
    (noteUncorrected d n q s).cfg = s.cfg ∧ (noteUncorrected d n q s).banks = s.banks ∧
    (noteUncorrected d n q s).arb = s.arb ∧ (noteUncorrected d n q s).exp = s.exp ∧
    (noteUncorrected d n q s).comp = s.comp ∧ (noteUncorrected d n q s).fbq = s.fbq ∧
    (noteUncorrected d n q s).lrx = s.lrx ∧ (noteUncorrected d n q s).ltx = s.ltx ∧
    (noteUncorrected d n q s).timer = s.timer ∧ (noteUncorrected d n q s).sweep = s.sweep ∧
    (noteUncorrected d n q s).host = s.host ∧ (noteUncorrected d n q s).cu = s.cu := by
  unfold noteUncorrected; simp only []; split <;> simp

@[simp] theorem readRx_frame (q : Requester) (n : Ctx) (s : State) :
    (readRx q n s).pending = s.pending ∧ (readRx q n s).pins = s.pins ∧ (readRx q n s).cfg = s.cfg ∧
    (readRx q n s).banks = s.banks ∧ (readRx q n s).arb = s.arb ∧ (readRx q n s).exp = s.exp ∧
    (readRx q n s).comp = s.comp ∧ (readRx q n s).fbq = s.fbq ∧ (readRx q n s).lrx = s.lrx ∧
    (readRx q n s).ltx = s.ltx ∧ (readRx q n s).timer = s.timer ∧ (readRx q n s).sweep = s.sweep ∧
    (readRx q n s).host = s.host ∧ (readRx q n s).cu = s.cu := by
  unfold readRx; simp only []; split <;> simp

@[simp] theorem readTx_frame (q : Requester) (n : Ctx) (s : State) :
    (readTx q n s).pending = s.pending ∧ (readTx q n s).pins = s.pins ∧ (readTx q n s).cfg = s.cfg ∧
    (readTx q n s).banks = s.banks ∧ (readTx q n s).arb = s.arb ∧ (readTx q n s).exp = s.exp ∧
    (readTx q n s).comp = s.comp ∧ (readTx q n s).fbq = s.fbq ∧ (readTx q n s).lrx = s.lrx ∧
    (readTx q n s).ltx = s.ltx ∧ (readTx q n s).timer = s.timer ∧ (readTx q n s).sweep = s.sweep ∧
    (readTx q n s).host = s.host ∧ (readTx q n s).cu = s.cu := by
  unfold readTx; simp only []; (repeat' split) <;> simp

@[simp] theorem searchSlots_frame (q : Requester) (k : Key) (l : List (Fin 4)) (s : State) :
    (searchSlots q k l s).1.pending = s.pending ∧ (searchSlots q k l s).1.pins = s.pins ∧
    (searchSlots q k l s).1.cfg = s.cfg ∧ (searchSlots q k l s).1.banks = s.banks ∧
    (searchSlots q k l s).1.arb = s.arb ∧ (searchSlots q k l s).1.exp = s.exp ∧
    (searchSlots q k l s).1.comp = s.comp ∧ (searchSlots q k l s).1.fbq = s.fbq ∧
    (searchSlots q k l s).1.lrx = s.lrx ∧ (searchSlots q k l s).1.ltx = s.ltx ∧
    (searchSlots q k l s).1.timer = s.timer ∧ (searchSlots q k l s).1.sweep = s.sweep ∧
    (searchSlots q k l s).1.host = s.host ∧ (searchSlots q k l s).1.cu = s.cu := by
  induction l generalizing s with
  | nil => simp [searchSlots]
  | cons i is ih =>
    unfold searchSlots
    split
    · simp [ih]
    · split
      · dsimp only; split <;> simp [ih]
      · simp [ih]

@[simp] theorem search_frame (q : Requester) (k : Key) (s : State) :
    (search q k s).1.pending = s.pending ∧ (search q k s).1.pins = s.pins ∧ (search q k s).1.cfg = s.cfg ∧
    (search q k s).1.banks = s.banks ∧ (search q k s).1.arb = s.arb ∧ (search q k s).1.exp = s.exp ∧
    (search q k s).1.comp = s.comp ∧ (search q k s).1.fbq = s.fbq ∧ (search q k s).1.lrx = s.lrx ∧
    (search q k s).1.ltx = s.ltx ∧ (search q k s).1.timer = s.timer ∧ (search q k s).1.sweep = s.sweep ∧
    (search q k s).1.host = s.host ∧ (search q k s).1.cu = s.cu := by
  simp [search]

@[simp] theorem offer_frame (e : FbEntry) (s : State) :
    (offer e s).pending = s.pending ∧ (offer e s).pins = s.pins ∧ (offer e s).cfg = s.cfg ∧
    (offer e s).banks = s.banks ∧ (offer e s).store = s.store ∧ (offer e s).arb = s.arb ∧ (offer e s).exp = s.exp ∧
    (offer e s).comp = s.comp ∧ (offer e s).lrx = s.lrx ∧ (offer e s).ltx = s.ltx ∧ (offer e s).timer = s.timer ∧
    (offer e s).sweep = s.sweep ∧ (offer e s).host = s.host ∧ (offer e s).cu = s.cu := by
  unfold offer; simp only []; split <;> simp

@[simp] theorem removeAck_frame (n : Ctx) (s : State) :
    (removeAck n s).pending = s.pending ∧ (removeAck n s).pins = s.pins ∧ (removeAck n s).cfg = s.cfg ∧
    (removeAck n s).banks = s.banks ∧ (removeAck n s).store = s.store ∧ (removeAck n s).arb = s.arb ∧
    (removeAck n s).exp = s.exp ∧ (removeAck n s).comp = s.comp ∧ (removeAck n s).lrx = s.lrx ∧
    (removeAck n s).ltx = s.ltx ∧ (removeAck n s).timer = s.timer ∧ (removeAck n s).sweep = s.sweep ∧
    (removeAck n s).stats = s.stats ∧ (removeAck n s).host = s.host ∧ (removeAck n s).cu = s.cu ∧
    (removeAck n s).stat = s.stat := by
  simp [removeAck]

@[simp] theorem freeRxRecord_frame (n : Ctx) (s : State) :
    (freeRxRecord n s).pending = s.pending ∧ (freeRxRecord n s).pins = s.pins ∧ (freeRxRecord n s).cfg = s.cfg ∧
    (freeRxRecord n s).banks = s.banks ∧ (freeRxRecord n s).arb = s.arb ∧ (freeRxRecord n s).exp = s.exp ∧
    (freeRxRecord n s).comp = s.comp ∧ (freeRxRecord n s).lrx = s.lrx ∧ (freeRxRecord n s).ltx = s.ltx ∧
    (freeRxRecord n s).timer = s.timer ∧ (freeRxRecord n s).sweep = s.sweep ∧ (freeRxRecord n s).stats = s.stats ∧
    (freeRxRecord n s).host = s.host ∧ (freeRxRecord n s).cu = s.cu := by
  simp [freeRxRecord]

@[simp] theorem clearBuild_frame (s : State) :
    (clearBuild s).pending = s.pending ∧ (clearBuild s).pins = s.pins ∧ (clearBuild s).cfg = s.cfg ∧
    (clearBuild s).banks = s.banks ∧ (clearBuild s).store = s.store ∧ (clearBuild s).arb = s.arb ∧
    (clearBuild s).exp = s.exp ∧ (clearBuild s).comp = s.comp ∧ (clearBuild s).fbq = s.fbq ∧
    (clearBuild s).lrx = s.lrx ∧ (clearBuild s).ltx = s.ltx ∧ (clearBuild s).timer = s.timer ∧
    (clearBuild s).sweep = s.sweep ∧ (clearBuild s).stats = s.stats ∧ (clearBuild s).cu = s.cu ∧
    (clearBuild s).stat = s.stat := by
  simp [clearBuild]

@[simp] theorem freeEntry_frame (s : State) :
    (freeEntry s).pending = s.pending ∧ (freeEntry s).pins = s.pins ∧ (freeEntry s).cfg = s.cfg ∧
    (freeEntry s).banks = s.banks ∧ (freeEntry s).store = s.store ∧ (freeEntry s).arb = s.arb ∧
    (freeEntry s).exp = s.exp ∧ (freeEntry s).comp = s.comp ∧ (freeEntry s).fbq = s.fbq ∧ (freeEntry s).lrx = s.lrx ∧
    (freeEntry s).ltx = s.ltx ∧ (freeEntry s).timer = s.timer ∧ (freeEntry s).sweep = s.sweep ∧
    (freeEntry s).stats = s.stats ∧ (freeEntry s).cu = s.cu ∧ (freeEntry s).stat = s.stat := by
  simp [freeEntry]

@[simp] theorem markLost_frame (s : State) :
    (markLost s).pending = s.pending ∧ (markLost s).pins = s.pins ∧ (markLost s).cfg = s.cfg ∧
    (markLost s).banks = s.banks ∧ (markLost s).store = s.store ∧ (markLost s).arb = s.arb ∧
    (markLost s).exp = s.exp ∧ (markLost s).comp = s.comp ∧ (markLost s).fbq = s.fbq ∧ (markLost s).lrx = s.lrx ∧
    (markLost s).ltx = s.ltx ∧ (markLost s).timer = s.timer ∧ (markLost s).sweep = s.sweep ∧
    (markLost s).stats = s.stats ∧ (markLost s).cu = s.cu := by
  simp [markLost]

@[simp] theorem pushEntry_frame (e : RxEntry) (s : State) :
    (pushEntry e s).pending = s.pending ∧ (pushEntry e s).pins = s.pins ∧ (pushEntry e s).cfg = s.cfg ∧
    (pushEntry e s).banks = s.banks ∧ (pushEntry e s).store = s.store ∧ (pushEntry e s).arb = s.arb ∧
    (pushEntry e s).exp = s.exp ∧ (pushEntry e s).comp = s.comp ∧ (pushEntry e s).fbq = s.fbq ∧
    (pushEntry e s).lrx = s.lrx ∧ (pushEntry e s).ltx = s.ltx ∧ (pushEntry e s).timer = s.timer ∧
    (pushEntry e s).sweep = s.sweep ∧ (pushEntry e s).stats = s.stats ∧ (pushEntry e s).cu = s.cu ∧
    (pushEntry e s).stat = s.stat := by
  simp [pushEntry]

@[simp] theorem setBuf_frame (k : Fin 2) (x : StagingBuffer) (s : State) :
    (setBuf k x s).pending = s.pending ∧ (setBuf k x s).pins = s.pins ∧ (setBuf k x s).cfg = s.cfg ∧
    (setBuf k x s).banks = s.banks ∧ (setBuf k x s).store = s.store ∧ (setBuf k x s).arb = s.arb ∧
    (setBuf k x s).exp = s.exp ∧ (setBuf k x s).comp = s.comp ∧ (setBuf k x s).fbq = s.fbq ∧
    (setBuf k x s).ltx = s.ltx ∧ (setBuf k x s).timer = s.timer ∧ (setBuf k x s).sweep = s.sweep ∧
    (setBuf k x s).stats = s.stats ∧ (setBuf k x s).host = s.host ∧ (setBuf k x s).cu = s.cu ∧
    (setBuf k x s).stat = s.stat := by
  simp [setBuf]

@[simp] theorem releaseBuf_frame (k : Fin 2) (s : State) :
    (releaseBuf k s).pending = s.pending ∧ (releaseBuf k s).pins = s.pins ∧ (releaseBuf k s).cfg = s.cfg ∧
    (releaseBuf k s).banks = s.banks ∧ (releaseBuf k s).store = s.store ∧ (releaseBuf k s).arb = s.arb ∧
    (releaseBuf k s).exp = s.exp ∧ (releaseBuf k s).comp = s.comp ∧ (releaseBuf k s).fbq = s.fbq ∧
    (releaseBuf k s).ltx = s.ltx ∧ (releaseBuf k s).timer = s.timer ∧ (releaseBuf k s).sweep = s.sweep ∧
    (releaseBuf k s).stats = s.stats ∧ (releaseBuf k s).host = s.host ∧ (releaseBuf k s).cu = s.cu ∧
    (releaseBuf k s).stat = s.stat := by
  simp [releaseBuf]

end Sys2Proof.Machine
end

