-- ==== Sys2Proof/Laws/FamilyFrames.lean ====
section
/-! SUPPORT. The frame of each operation of a family: the blocks it leaves as they are. -/

namespace Sys2Proof.Machine

@[simp] theorem badFrame_frame (s : State) :
    (badFrame s).pending = s.pending ∧ (badFrame s).pins = s.pins ∧ (badFrame s).cfg = s.cfg ∧
    (badFrame s).banks = s.banks ∧ (badFrame s).store = s.store ∧ (badFrame s).arb = s.arb ∧
    (badFrame s).exp = s.exp ∧ (badFrame s).comp = s.comp ∧ (badFrame s).fbq = s.fbq ∧ (badFrame s).ltx = s.ltx ∧
    (badFrame s).timer = s.timer ∧ (badFrame s).sweep = s.sweep ∧ (badFrame s).stats = s.stats ∧
    (badFrame s).host = s.host ∧ (badFrame s).cu = s.cu := by
  unfold badFrame; dsimp only; (repeat' split) <;> simp

@[simp] theorem goodFrame_frame (s : State) :
    (goodFrame s).pending = s.pending ∧ (goodFrame s).pins = s.pins ∧ (goodFrame s).cfg = s.cfg ∧
    (goodFrame s).banks = s.banks ∧ (goodFrame s).store = s.store ∧ (goodFrame s).arb = s.arb ∧
    (goodFrame s).exp = s.exp ∧ (goodFrame s).comp = s.comp ∧ (goodFrame s).fbq = s.fbq ∧ (goodFrame s).ltx = s.ltx ∧
    (goodFrame s).timer = s.timer ∧ (goodFrame s).sweep = s.sweep ∧ (goodFrame s).stats = s.stats ∧
    (goodFrame s).host = s.host ∧ (goodFrame s).cu = s.cu := by
  unfold goodFrame; dsimp only; split <;> simp

@[simp] theorem enterHunt_frame (s : State) :
    (enterHunt s).pending = s.pending ∧ (enterHunt s).pins = s.pins ∧ (enterHunt s).cfg = s.cfg ∧
    (enterHunt s).banks = s.banks ∧ (enterHunt s).store = s.store ∧ (enterHunt s).arb = s.arb ∧
    (enterHunt s).exp = s.exp ∧ (enterHunt s).comp = s.comp ∧ (enterHunt s).fbq = s.fbq ∧ (enterHunt s).ltx = s.ltx ∧
    (enterHunt s).timer = s.timer ∧ (enterHunt s).sweep = s.sweep ∧ (enterHunt s).stats = s.stats ∧
    (enterHunt s).host = s.host ∧ (enterHunt s).cu = s.cu ∧ (enterHunt s).stat = s.stat := by
  simp [enterHunt]

@[simp] theorem addressRead_frame (f : RxFormat) (a : List Byte) (s : State) :
    (addressRead f a s).pending = s.pending ∧ (addressRead f a s).pins = s.pins ∧ (addressRead f a s).cfg = s.cfg ∧
    (addressRead f a s).banks = s.banks ∧ (addressRead f a s).store = s.store ∧ (addressRead f a s).arb = s.arb ∧
    (addressRead f a s).exp = s.exp ∧ (addressRead f a s).comp = s.comp ∧ (addressRead f a s).fbq = s.fbq ∧
    (addressRead f a s).ltx = s.ltx ∧ (addressRead f a s).timer = s.timer ∧ (addressRead f a s).sweep = s.sweep ∧
    (addressRead f a s).stats = s.stats ∧ (addressRead f a s).host = s.host ∧ (addressRead f a s).cu = s.cu ∧
    (addressRead f a s).stat = s.stat := by
  unfold addressRead; (repeat' split) <;> simp

@[simp] theorem lengthError_frame (s : State) :
    (lengthError s).pending = s.pending ∧ (lengthError s).pins = s.pins ∧ (lengthError s).cfg = s.cfg ∧
    (lengthError s).banks = s.banks ∧ (lengthError s).store = s.store ∧ (lengthError s).arb = s.arb ∧
    (lengthError s).exp = s.exp ∧ (lengthError s).comp = s.comp ∧ (lengthError s).fbq = s.fbq ∧
    (lengthError s).ltx = s.ltx ∧ (lengthError s).timer = s.timer ∧ (lengthError s).sweep = s.sweep ∧
    (lengthError s).host = s.host ∧ (lengthError s).cu = s.cu := by
  simp [lengthError]

@[simp] theorem skipEnds_frame (w : SkipWhy) (s : State) :
    (skipEnds w s).pending = s.pending ∧ (skipEnds w s).pins = s.pins ∧ (skipEnds w s).cfg = s.cfg ∧
    (skipEnds w s).banks = s.banks ∧ (skipEnds w s).store = s.store ∧ (skipEnds w s).arb = s.arb ∧
    (skipEnds w s).exp = s.exp ∧ (skipEnds w s).comp = s.comp ∧ (skipEnds w s).fbq = s.fbq ∧
    (skipEnds w s).ltx = s.ltx ∧ (skipEnds w s).timer = s.timer ∧ (skipEnds w s).sweep = s.sweep ∧
    (skipEnds w s).cu = s.cu := by
  cases w <;> simp [skipEnds]

@[simp] theorem frameEnds_frame (f : RxFormat) (a : List Byte) (k : Fin 2) (c : List Byte) (s : State) :
    (frameEnds f a k c s).pending = s.pending ∧ (frameEnds f a k c s).pins = s.pins ∧
    (frameEnds f a k c s).cfg = s.cfg ∧ (frameEnds f a k c s).banks = s.banks ∧
    (frameEnds f a k c s).store = s.store ∧ (frameEnds f a k c s).arb = s.arb ∧ (frameEnds f a k c s).exp = s.exp ∧
    (frameEnds f a k c s).comp = s.comp ∧ (frameEnds f a k c s).fbq = s.fbq ∧ (frameEnds f a k c s).ltx = s.ltx ∧
    (frameEnds f a k c s).timer = s.timer ∧ (frameEnds f a k c s).sweep = s.sweep ∧
    (frameEnds f a k c s).host = s.host ∧ (frameEnds f a k c s).cu = s.cu := by
  unfold frameEnds; dsimp only; (repeat' split) <;> simp

@[simp] theorem frameByte_frame (f : RxFormat) (a : List Byte) (k : Fin 2) (h : Bool) (c : List Byte) (x : Byte) (s : State) :
    (frameByte f a k h c x s).pending = s.pending ∧ (frameByte f a k h c x s).pins = s.pins ∧
    (frameByte f a k h c x s).cfg = s.cfg ∧ (frameByte f a k h c x s).banks = s.banks ∧
    (frameByte f a k h c x s).store = s.store ∧ (frameByte f a k h c x s).arb = s.arb ∧
    (frameByte f a k h c x s).exp = s.exp ∧ (frameByte f a k h c x s).comp = s.comp ∧
    (frameByte f a k h c x s).fbq = s.fbq ∧ (frameByte f a k h c x s).ltx = s.ltx ∧
    (frameByte f a k h c x s).timer = s.timer ∧ (frameByte f a k h c x s).sweep = s.sweep ∧
    (frameByte f a k h c x s).host = s.host ∧ (frameByte f a k h c x s).cu = s.cu := by
  unfold frameByte; dsimp only; (repeat' split) <;> simp

@[simp] theorem skipByte_frame (f : RxFormat) (w : SkipWhy) (l : Option Nat) (x : Byte) (s : State) :
    (skipByte f w l x s).pending = s.pending ∧ (skipByte f w l x s).pins = s.pins ∧
    (skipByte f w l x s).cfg = s.cfg ∧ (skipByte f w l x s).banks = s.banks ∧ (skipByte f w l x s).store = s.store ∧
    (skipByte f w l x s).arb = s.arb ∧ (skipByte f w l x s).exp = s.exp ∧ (skipByte f w l x s).comp = s.comp ∧
    (skipByte f w l x s).fbq = s.fbq ∧ (skipByte f w l x s).ltx = s.ltx ∧ (skipByte f w l x s).timer = s.timer ∧
    (skipByte f w l x s).sweep = s.sweep ∧ (skipByte f w l x s).cu = s.cu := by
  unfold skipByte; dsimp only; (repeat' split) <;> simp

@[simp] theorem receiveByte_frame (x : Byte) (s : State) :
    (receiveByte x s).pending = s.pending ∧ (receiveByte x s).pins = s.pins ∧ (receiveByte x s).cfg = s.cfg ∧
    (receiveByte x s).banks = s.banks ∧ (receiveByte x s).store = s.store ∧ (receiveByte x s).arb = s.arb ∧
    (receiveByte x s).exp = s.exp ∧ (receiveByte x s).comp = s.comp ∧ (receiveByte x s).fbq = s.fbq ∧
    (receiveByte x s).ltx = s.ltx ∧ (receiveByte x s).timer = s.timer ∧ (receiveByte x s).sweep = s.sweep ∧
    (receiveByte x s).cu = s.cu := by
  unfold receiveByte; dsimp only; (repeat' split) <;> simp

@[simp] theorem receiveBytes_frame (l : List Byte) (s : State) :
    (l.foldl (fun t x => receiveByte x t) s).pending = s.pending ∧
    (l.foldl (fun t x => receiveByte x t) s).pins = s.pins ∧ (l.foldl (fun t x => receiveByte x t) s).cfg = s.cfg ∧
    (l.foldl (fun t x => receiveByte x t) s).banks = s.banks ∧
    (l.foldl (fun t x => receiveByte x t) s).store = s.store ∧ (l.foldl (fun t x => receiveByte x t) s).arb = s.arb ∧
    (l.foldl (fun t x => receiveByte x t) s).exp = s.exp ∧ (l.foldl (fun t x => receiveByte x t) s).comp = s.comp ∧
    (l.foldl (fun t x => receiveByte x t) s).fbq = s.fbq ∧ (l.foldl (fun t x => receiveByte x t) s).ltx = s.ltx ∧
    (l.foldl (fun t x => receiveByte x t) s).timer = s.timer ∧
    (l.foldl (fun t x => receiveByte x t) s).sweep = s.sweep ∧ (l.foldl (fun t x => receiveByte x t) s).cu = s.cu := by
  induction l generalizing s with
  | nil => simp
  | cons x xs ih => simp [ih]

@[simp] theorem startReceiver_frame (s : State) :
    (startReceiver s).pending = s.pending ∧ (startReceiver s).pins = s.pins ∧ (startReceiver s).cfg = s.cfg ∧
    (startReceiver s).banks = s.banks ∧ (startReceiver s).store = s.store ∧ (startReceiver s).arb = s.arb ∧
    (startReceiver s).exp = s.exp ∧ (startReceiver s).comp = s.comp ∧ (startReceiver s).fbq = s.fbq ∧
    (startReceiver s).ltx = s.ltx ∧ (startReceiver s).timer = s.timer ∧ (startReceiver s).sweep = s.sweep ∧
    (startReceiver s).stats = s.stats ∧ (startReceiver s).host = s.host ∧ (startReceiver s).cu = s.cu ∧
    (startReceiver s).stat = s.stat := by
  unfold startReceiver; (repeat' split) <;> simp

@[simp] theorem abandonReception_frame (s : State) :
    (abandonReception s).pending = s.pending ∧ (abandonReception s).pins = s.pins ∧
    (abandonReception s).cfg = s.cfg ∧ (abandonReception s).banks = s.banks ∧ (abandonReception s).store = s.store ∧
    (abandonReception s).arb = s.arb ∧ (abandonReception s).exp = s.exp ∧ (abandonReception s).comp = s.comp ∧
    (abandonReception s).fbq = s.fbq ∧ (abandonReception s).ltx = s.ltx ∧ (abandonReception s).timer = s.timer ∧
    (abandonReception s).sweep = s.sweep ∧ (abandonReception s).stats = s.stats ∧
    (abandonReception s).host = s.host ∧ (abandonReception s).cu = s.cu ∧ (abandonReception s).stat = s.stat := by
  unfold abandonReception; (repeat' split) <;> simp

@[simp] theorem writeReceiveEnable_frame (v : Bool) (s : State) :
    (writeReceiveEnable v s).pending = s.pending ∧ (writeReceiveEnable v s).pins = s.pins ∧
    (writeReceiveEnable v s).cfg = s.cfg ∧ (writeReceiveEnable v s).banks = s.banks ∧
    (writeReceiveEnable v s).store = s.store ∧ (writeReceiveEnable v s).arb = s.arb ∧
    (writeReceiveEnable v s).exp = s.exp ∧ (writeReceiveEnable v s).comp = s.comp ∧
    (writeReceiveEnable v s).fbq = s.fbq ∧ (writeReceiveEnable v s).ltx = s.ltx ∧
    (writeReceiveEnable v s).timer = s.timer ∧ (writeReceiveEnable v s).sweep = s.sweep ∧
    (writeReceiveEnable v s).stats = s.stats ∧ (writeReceiveEnable v s).host = s.host ∧
    (writeReceiveEnable v s).cu = s.cu ∧ (writeReceiveEnable v s).stat = s.stat := by
  unfold writeReceiveEnable; dsimp only; (repeat' split) <;> simp

@[simp] theorem dropFrame_frame (b : Fin 2) (s : State) :
    (dropFrame b s).pending = s.pending ∧ (dropFrame b s).pins = s.pins ∧ (dropFrame b s).cfg = s.cfg ∧
    (dropFrame b s).banks = s.banks ∧ (dropFrame b s).store = s.store ∧ (dropFrame b s).arb = s.arb ∧
    (dropFrame b s).exp = s.exp ∧ (dropFrame b s).comp = s.comp ∧ (dropFrame b s).fbq = s.fbq ∧
    (dropFrame b s).ltx = s.ltx ∧ (dropFrame b s).timer = s.timer ∧ (dropFrame b s).sweep = s.sweep ∧
    (dropFrame b s).cu = s.cu := by
  simp [dropFrame]

@[simp] theorem startWork_frame (b : Fin 2) (w : ExpWork) (s : State) :
    (startWork b w s).pending = s.pending ∧ (startWork b w s).pins = s.pins ∧ (startWork b w s).cfg = s.cfg ∧
    (startWork b w s).banks = s.banks ∧ (startWork b w s).store = s.store ∧ (startWork b w s).comp = s.comp ∧
    (startWork b w s).fbq = s.fbq ∧ (startWork b w s).lrx = s.lrx ∧ (startWork b w s).ltx = s.ltx ∧
    (startWork b w s).timer = s.timer ∧ (startWork b w s).sweep = s.sweep ∧ (startWork b w s).stats = s.stats ∧
    (startWork b w s).host = s.host ∧ (startWork b w s).cu = s.cu ∧ (startWork b w s).stat = s.stat := by
  simp [startWork]

@[simp] theorem handleVerdict_frame (b : Fin 2) (v : Verdict) (s : State) :
    (handleVerdict b v s).pending = s.pending ∧ (handleVerdict b v s).pins = s.pins ∧
    (handleVerdict b v s).cfg = s.cfg ∧ (handleVerdict b v s).banks = s.banks ∧
    (handleVerdict b v s).store = s.store ∧ (handleVerdict b v s).comp = s.comp ∧ (handleVerdict b v s).fbq = s.fbq ∧
    (handleVerdict b v s).ltx = s.ltx ∧ (handleVerdict b v s).timer = s.timer ∧
    (handleVerdict b v s).sweep = s.sweep ∧ (handleVerdict b v s).cu = s.cu := by
  unfold handleVerdict; (repeat' split) <;> simp

@[simp] theorem expanderTake_frame (s : State) :
    (expanderTake s).pending = s.pending ∧ (expanderTake s).pins = s.pins ∧ (expanderTake s).cfg = s.cfg ∧
    (expanderTake s).banks = s.banks ∧ (expanderTake s).store = s.store ∧ (expanderTake s).comp = s.comp ∧
    (expanderTake s).fbq = s.fbq ∧ (expanderTake s).ltx = s.ltx ∧ (expanderTake s).timer = s.timer ∧
    (expanderTake s).sweep = s.sweep ∧ (expanderTake s).cu = s.cu := by
  unfold expanderTake; dsimp only; (repeat' split) <;> simp

@[simp] theorem endWork_frame (b : Option (Fin 2)) (s : State) :
    (endWork b s).pending = s.pending ∧ (endWork b s).pins = s.pins ∧ (endWork b s).cfg = s.cfg ∧
    (endWork b s).banks = s.banks ∧ (endWork b s).store = s.store ∧ (endWork b s).arb = s.arb ∧
    (endWork b s).comp = s.comp ∧ (endWork b s).fbq = s.fbq ∧ (endWork b s).ltx = s.ltx ∧
    (endWork b s).timer = s.timer ∧ (endWork b s).sweep = s.sweep ∧ (endWork b s).stats = s.stats ∧
    (endWork b s).host = s.host ∧ (endWork b s).cu = s.cu ∧ (endWork b s).stat = s.stat := by
  unfold endWork; (repeat' split) <;> simp

@[simp] theorem endExpTransaction_frame (b : Option (Fin 2)) (e : Option RxEntry) (s : State) :
    (endExpTransaction b e s).pending = s.pending ∧ (endExpTransaction b e s).pins = s.pins ∧
    (endExpTransaction b e s).cfg = s.cfg ∧ (endExpTransaction b e s).banks = s.banks ∧
    (endExpTransaction b e s).store = s.store ∧ (endExpTransaction b e s).comp = s.comp ∧
    (endExpTransaction b e s).fbq = s.fbq ∧ (endExpTransaction b e s).ltx = s.ltx ∧
    (endExpTransaction b e s).timer = s.timer ∧ (endExpTransaction b e s).sweep = s.sweep ∧
    (endExpTransaction b e s).stats = s.stats ∧ (endExpTransaction b e s).host = s.host ∧
    (endExpTransaction b e s).cu = s.cu ∧ (endExpTransaction b e s).stat = s.stat := by
  unfold endExpTransaction; split <;> simp

@[simp] theorem offerAck_frame (n : Ctx) (s : State) :
    (offerAck n s).pending = s.pending ∧ (offerAck n s).pins = s.pins ∧ (offerAck n s).cfg = s.cfg ∧
    (offerAck n s).banks = s.banks ∧ (offerAck n s).store = s.store ∧ (offerAck n s).arb = s.arb ∧
    (offerAck n s).exp = s.exp ∧ (offerAck n s).comp = s.comp ∧ (offerAck n s).lrx = s.lrx ∧
    (offerAck n s).ltx = s.ltx ∧ (offerAck n s).timer = s.timer ∧ (offerAck n s).sweep = s.sweep ∧
    (offerAck n s).host = s.host ∧ (offerAck n s).cu = s.cu := by
  unfold offerAck; (repeat' split) <;> simp

@[simp] theorem fullTransaction_frame (n : Ctx) (h : Header) (d : Half) (p : List Byte) (s : State) :
    (fullTransaction n h d p s).1.pending = s.pending ∧ (fullTransaction n h d p s).1.pins = s.pins ∧
    (fullTransaction n h d p s).1.cfg = s.cfg ∧ (fullTransaction n h d p s).1.banks = s.banks ∧
    (fullTransaction n h d p s).1.arb = s.arb ∧ (fullTransaction n h d p s).1.exp = s.exp ∧
    (fullTransaction n h d p s).1.comp = s.comp ∧ (fullTransaction n h d p s).1.lrx = s.lrx ∧
    (fullTransaction n h d p s).1.ltx = s.ltx ∧ (fullTransaction n h d p s).1.timer = s.timer ∧
    (fullTransaction n h d p s).1.sweep = s.sweep ∧ (fullTransaction n h d p s).1.host = s.host ∧
    (fullTransaction n h d p s).1.cu = s.cu := by
  unfold fullTransaction; dsimp only; (repeat' split) <;> simp

@[simp] theorem noContext_frame (n : Ctx) (s : State) :
    (noContext n s).pending = s.pending ∧ (noContext n s).pins = s.pins ∧ (noContext n s).cfg = s.cfg ∧
    (noContext n s).banks = s.banks ∧ (noContext n s).store = s.store ∧ (noContext n s).arb = s.arb ∧
    (noContext n s).exp = s.exp ∧ (noContext n s).comp = s.comp ∧ (noContext n s).lrx = s.lrx ∧
    (noContext n s).ltx = s.ltx ∧ (noContext n s).timer = s.timer ∧ (noContext n s).sweep = s.sweep ∧
    (noContext n s).host = s.host ∧ (noContext n s).cu = s.cu := by
  simp [noContext]

@[simp] theorem checkFails_frame (n : Ctx) (st : RxState) (c : Contents) (s : State) :
    (checkFails n st c s).pending = s.pending ∧ (checkFails n st c s).pins = s.pins ∧
    (checkFails n st c s).cfg = s.cfg ∧ (checkFails n st c s).banks = s.banks ∧ (checkFails n st c s).arb = s.arb ∧
    (checkFails n st c s).exp = s.exp ∧ (checkFails n st c s).comp = s.comp ∧ (checkFails n st c s).lrx = s.lrx ∧
    (checkFails n st c s).ltx = s.ltx ∧ (checkFails n st c s).timer = s.timer ∧
    (checkFails n st c s).sweep = s.sweep ∧ (checkFails n st c s).host = s.host ∧ (checkFails n st c s).cu = s.cu := by
  unfold checkFails; dsimp only; split <;> simp

@[simp] theorem deltaTransaction_frame (n : Ctx) (d : Nat) (r : Int) (v : Option Half) (k : BitVec 7) (p : List Byte) (s : State) :
    (deltaTransaction n d r v k p s).1.pending = s.pending ∧ (deltaTransaction n d r v k p s).1.pins = s.pins ∧
    (deltaTransaction n d r v k p s).1.cfg = s.cfg ∧ (deltaTransaction n d r v k p s).1.banks = s.banks ∧
    (deltaTransaction n d r v k p s).1.arb = s.arb ∧ (deltaTransaction n d r v k p s).1.exp = s.exp ∧
    (deltaTransaction n d r v k p s).1.comp = s.comp ∧ (deltaTransaction n d r v k p s).1.lrx = s.lrx ∧
    (deltaTransaction n d r v k p s).1.ltx = s.ltx ∧ (deltaTransaction n d r v k p s).1.timer = s.timer ∧
    (deltaTransaction n d r v k p s).1.sweep = s.sweep ∧ (deltaTransaction n d r v k p s).1.host = s.host ∧
    (deltaTransaction n d r v k p s).1.cu = s.cu := by
  unfold deltaTransaction; dsimp only; (repeat' split) <;> simp

@[simp] theorem briefTransaction_frame (n : Ctx) (k : BitVec 7) (p : List Byte) (s : State) :
    (briefTransaction n k p s).1.pending = s.pending ∧ (briefTransaction n k p s).1.pins = s.pins ∧
    (briefTransaction n k p s).1.cfg = s.cfg ∧ (briefTransaction n k p s).1.banks = s.banks ∧
    (briefTransaction n k p s).1.arb = s.arb ∧ (briefTransaction n k p s).1.exp = s.exp ∧
    (briefTransaction n k p s).1.comp = s.comp ∧ (briefTransaction n k p s).1.lrx = s.lrx ∧
    (briefTransaction n k p s).1.ltx = s.ltx ∧ (briefTransaction n k p s).1.timer = s.timer ∧
    (briefTransaction n k p s).1.sweep = s.sweep ∧ (briefTransaction n k p s).1.host = s.host ∧
    (briefTransaction n k p s).1.cu = s.cu := by
  unfold briefTransaction; dsimp only; (repeat' split) <;> simp

@[simp] theorem endEntry_frame (b : Option (Fin 2)) (r : List FbEntry) (s : State) :
    (endEntry b r s).pending = s.pending ∧ (endEntry b r s).pins = s.pins ∧ (endEntry b r s).cfg = s.cfg ∧
    (endEntry b r s).banks = s.banks ∧ (endEntry b r s).store = s.store ∧ (endEntry b r s).comp = s.comp ∧
    (endEntry b r s).fbq = s.fbq ∧ (endEntry b r s).ltx = s.ltx ∧ (endEntry b r s).timer = s.timer ∧
    (endEntry b r s).sweep = s.sweep ∧ (endEntry b r s).stats = s.stats ∧ (endEntry b r s).host = s.host ∧
    (endEntry b r s).cu = s.cu ∧ (endEntry b r s).stat = s.stat := by
  unfold endEntry; (repeat' split) <;> simp

@[simp] theorem ackEntry_frame (n : Ctx) (s : State) :
    (ackEntry n s).pending = s.pending ∧ (ackEntry n s).pins = s.pins ∧ (ackEntry n s).cfg = s.cfg ∧
    (ackEntry n s).banks = s.banks ∧ (ackEntry n s).arb = s.arb ∧ (ackEntry n s).exp = s.exp ∧
    (ackEntry n s).comp = s.comp ∧ (ackEntry n s).fbq = s.fbq ∧ (ackEntry n s).lrx = s.lrx ∧
    (ackEntry n s).ltx = s.ltx ∧ (ackEntry n s).timer = s.timer ∧ (ackEntry n s).sweep = s.sweep ∧
    (ackEntry n s).host = s.host ∧ (ackEntry n s).cu = s.cu := by
  unfold ackEntry; dsimp only; (repeat' split) <;> simp

@[simp] theorem makeRefreshing_frame (n : Ctx) (s : State) :
    (makeRefreshing n s).pending = s.pending ∧ (makeRefreshing n s).pins = s.pins ∧
    (makeRefreshing n s).cfg = s.cfg ∧ (makeRefreshing n s).banks = s.banks ∧ (makeRefreshing n s).arb = s.arb ∧
    (makeRefreshing n s).exp = s.exp ∧ (makeRefreshing n s).comp = s.comp ∧ (makeRefreshing n s).fbq = s.fbq ∧
    (makeRefreshing n s).lrx = s.lrx ∧ (makeRefreshing n s).ltx = s.ltx ∧ (makeRefreshing n s).timer = s.timer ∧
    (makeRefreshing n s).sweep = s.sweep ∧ (makeRefreshing n s).stats = s.stats ∧
    (makeRefreshing n s).host = s.host ∧ (makeRefreshing n s).cu = s.cu := by
  unfold makeRefreshing; (repeat' split) <;> simp

@[simp] theorem refreshEntry_frame (n : Ctx) (s : State) :
    (refreshEntry n s).pending = s.pending ∧ (refreshEntry n s).pins = s.pins ∧ (refreshEntry n s).cfg = s.cfg ∧
    (refreshEntry n s).banks = s.banks ∧ (refreshEntry n s).arb = s.arb ∧ (refreshEntry n s).exp = s.exp ∧
    (refreshEntry n s).comp = s.comp ∧ (refreshEntry n s).fbq = s.fbq ∧ (refreshEntry n s).lrx = s.lrx ∧
    (refreshEntry n s).ltx = s.ltx ∧ (refreshEntry n s).timer = s.timer ∧ (refreshEntry n s).sweep = s.sweep ∧
    (refreshEntry n s).host = s.host ∧ (refreshEntry n s).cu = s.cu := by
  unfold refreshEntry; dsimp only; (repeat' split) <;> simp

@[simp] theorem sendBytes_frame (l : List Byte) (s : State) :
    (sendBytes l s).pending = s.pending ∧ (sendBytes l s).cfg = s.cfg ∧ (sendBytes l s).banks = s.banks ∧
    (sendBytes l s).store = s.store ∧ (sendBytes l s).arb = s.arb ∧ (sendBytes l s).exp = s.exp ∧
    (sendBytes l s).comp = s.comp ∧ (sendBytes l s).fbq = s.fbq ∧ (sendBytes l s).lrx = s.lrx ∧
    (sendBytes l s).ltx = s.ltx ∧ (sendBytes l s).timer = s.timer ∧ (sendBytes l s).sweep = s.sweep ∧
    (sendBytes l s).stats = s.stats ∧ (sendBytes l s).host = s.host ∧ (sendBytes l s).cu = s.cu ∧
    (sendBytes l s).stat = s.stat := by
  simp [sendBytes]

@[simp] theorem leaveFrame_frame (s : State) :
    (leaveFrame s).pending = s.pending ∧ (leaveFrame s).pins = s.pins ∧ (leaveFrame s).cfg = s.cfg ∧
    (leaveFrame s).banks = s.banks ∧ (leaveFrame s).store = s.store ∧ (leaveFrame s).arb = s.arb ∧
    (leaveFrame s).exp = s.exp ∧ (leaveFrame s).comp = s.comp ∧ (leaveFrame s).fbq = s.fbq ∧
    (leaveFrame s).lrx = s.lrx ∧ (leaveFrame s).timer = s.timer ∧ (leaveFrame s).sweep = s.sweep ∧
    (leaveFrame s).stats = s.stats ∧ (leaveFrame s).host = s.host ∧ (leaveFrame s).cu = s.cu ∧
    (leaveFrame s).stat = s.stat := by
  simp [leaveFrame]

@[simp] theorem countAborted_frame (s : State) :
    (countAborted s).pending = s.pending ∧ (countAborted s).pins = s.pins ∧ (countAborted s).cfg = s.cfg ∧
    (countAborted s).banks = s.banks ∧ (countAborted s).store = s.store ∧ (countAborted s).arb = s.arb ∧
    (countAborted s).exp = s.exp ∧ (countAborted s).comp = s.comp ∧ (countAborted s).fbq = s.fbq ∧
    (countAborted s).lrx = s.lrx ∧ (countAborted s).timer = s.timer ∧ (countAborted s).sweep = s.sweep ∧
    (countAborted s).host = s.host ∧ (countAborted s).cu = s.cu := by
  simp [countAborted]

@[simp] theorem answerAbandoned_frame (n : Option Ctx) (s : State) :
    (answerAbandoned n s).pending = s.pending ∧ (answerAbandoned n s).pins = s.pins ∧
    (answerAbandoned n s).cfg = s.cfg ∧ (answerAbandoned n s).banks = s.banks ∧
    (answerAbandoned n s).store = s.store ∧ (answerAbandoned n s).exp = s.exp ∧ (answerAbandoned n s).fbq = s.fbq ∧
    (answerAbandoned n s).lrx = s.lrx ∧ (answerAbandoned n s).timer = s.timer ∧
    (answerAbandoned n s).sweep = s.sweep ∧ (answerAbandoned n s).stats = s.stats ∧
    (answerAbandoned n s).host = s.host ∧ (answerAbandoned n s).cu = s.cu ∧ (answerAbandoned n s).stat = s.stat := by
  unfold answerAbandoned; (repeat' split) <;> simp

@[simp] theorem abandonFrame_frame (s : State) :
    (abandonFrame s).pending = s.pending ∧ (abandonFrame s).pins = s.pins ∧ (abandonFrame s).cfg = s.cfg ∧
    (abandonFrame s).banks = s.banks ∧ (abandonFrame s).store = s.store ∧ (abandonFrame s).exp = s.exp ∧
    (abandonFrame s).fbq = s.fbq ∧ (abandonFrame s).lrx = s.lrx ∧ (abandonFrame s).timer = s.timer ∧
    (abandonFrame s).sweep = s.sweep ∧ (abandonFrame s).host = s.host ∧ (abandonFrame s).cu = s.cu := by
  unfold abandonFrame; (repeat' split) <;> simp

@[simp] theorem feedbackStart_frame (s : State) :
    (feedbackStart s).pending = s.pending ∧ (feedbackStart s).pins = s.pins ∧ (feedbackStart s).cfg = s.cfg ∧
    (feedbackStart s).banks = s.banks ∧ (feedbackStart s).store = s.store ∧ (feedbackStart s).arb = s.arb ∧
    (feedbackStart s).exp = s.exp ∧ (feedbackStart s).comp = s.comp ∧ (feedbackStart s).lrx = s.lrx ∧
    (feedbackStart s).timer = s.timer ∧ (feedbackStart s).sweep = s.sweep ∧ (feedbackStart s).stats = s.stats ∧
    (feedbackStart s).host = s.host ∧ (feedbackStart s).cu = s.cu ∧ (feedbackStart s).stat = s.stat := by
  simp [feedbackStart]

@[simp] theorem messageStart_frame (m : Message) (r : List Message) (s : State) :
    (messageStart m r s).pending = s.pending ∧ (messageStart m r s).pins = s.pins ∧
    (messageStart m r s).cfg = s.cfg ∧ (messageStart m r s).banks = s.banks ∧ (messageStart m r s).store = s.store ∧
    (messageStart m r s).exp = s.exp ∧ (messageStart m r s).fbq = s.fbq ∧ (messageStart m r s).lrx = s.lrx ∧
    (messageStart m r s).timer = s.timer ∧ (messageStart m r s).sweep = s.sweep ∧
    (messageStart m r s).stats = s.stats ∧ (messageStart m r s).cu = s.cu ∧ (messageStart m r s).stat = s.stat := by
  simp [messageStart]

@[simp] theorem enterHeld_frame (s : State) :
    (enterHeld s).pending = s.pending ∧ (enterHeld s).pins = s.pins ∧ (enterHeld s).cfg = s.cfg ∧
    (enterHeld s).banks = s.banks ∧ (enterHeld s).store = s.store ∧ (enterHeld s).arb = s.arb ∧
    (enterHeld s).exp = s.exp ∧ (enterHeld s).comp = s.comp ∧ (enterHeld s).fbq = s.fbq ∧ (enterHeld s).lrx = s.lrx ∧
    (enterHeld s).timer = s.timer ∧ (enterHeld s).sweep = s.sweep ∧ (enterHeld s).stats = s.stats ∧
    (enterHeld s).host = s.host ∧ (enterHeld s).cu = s.cu ∧ (enterHeld s).stat = s.stat := by
  simp [enterHeld]

@[simp] theorem leaveHeld_frame (s : State) :
    (leaveHeld s).pending = s.pending ∧ (leaveHeld s).pins = s.pins ∧ (leaveHeld s).cfg = s.cfg ∧
    (leaveHeld s).banks = s.banks ∧ (leaveHeld s).store = s.store ∧ (leaveHeld s).arb = s.arb ∧
    (leaveHeld s).exp = s.exp ∧ (leaveHeld s).comp = s.comp ∧ (leaveHeld s).fbq = s.fbq ∧ (leaveHeld s).lrx = s.lrx ∧
    (leaveHeld s).timer = s.timer ∧ (leaveHeld s).sweep = s.sweep ∧ (leaveHeld s).stats = s.stats ∧
    (leaveHeld s).host = s.host ∧ (leaveHeld s).cu = s.cu ∧ (leaveHeld s).stat = s.stat := by
  unfold leaveHeld; (repeat' split) <;> simp

@[simp] theorem startFrame_frame (s : State) :
    (startFrame s).pending = s.pending ∧ (startFrame s).pins = s.pins ∧ (startFrame s).cfg = s.cfg ∧
    (startFrame s).banks = s.banks ∧ (startFrame s).store = s.store ∧ (startFrame s).exp = s.exp ∧
    (startFrame s).lrx = s.lrx ∧ (startFrame s).timer = s.timer ∧ (startFrame s).sweep = s.sweep ∧
    (startFrame s).stats = s.stats ∧ (startFrame s).cu = s.cu ∧ (startFrame s).stat = s.stat := by
  unfold startFrame; (repeat' split) <;> simp

@[simp] theorem ctsTest_frame (s : State) :
    (ctsTest s).pending = s.pending ∧ (ctsTest s).pins = s.pins ∧ (ctsTest s).cfg = s.cfg ∧
    (ctsTest s).banks = s.banks ∧ (ctsTest s).store = s.store ∧ (ctsTest s).exp = s.exp ∧ (ctsTest s).fbq = s.fbq ∧
    (ctsTest s).lrx = s.lrx ∧ (ctsTest s).timer = s.timer ∧ (ctsTest s).sweep = s.sweep ∧ (ctsTest s).host = s.host ∧
    (ctsTest s).cu = s.cu := by
  unfold ctsTest; (repeat' split) <;> simp

@[simp] theorem slotByte_frame (s : State) :
    (slotByte s).pending = s.pending ∧ (slotByte s).cfg = s.cfg ∧ (slotByte s).banks = s.banks ∧
    (slotByte s).store = s.store ∧ (slotByte s).arb = s.arb ∧ (slotByte s).exp = s.exp ∧ (slotByte s).comp = s.comp ∧
    (slotByte s).fbq = s.fbq ∧ (slotByte s).lrx = s.lrx ∧ (slotByte s).timer = s.timer ∧
    (slotByte s).sweep = s.sweep ∧ (slotByte s).stats = s.stats ∧ (slotByte s).host = s.host ∧
    (slotByte s).cu = s.cu ∧ (slotByte s).stat = s.stat := by
  unfold slotByte; (repeat' split) <;> simp

@[simp] theorem byteSlot_frame (s : State) :
    (byteSlot s).pending = s.pending ∧ (byteSlot s).cfg = s.cfg ∧ (byteSlot s).banks = s.banks ∧
    (byteSlot s).store = s.store ∧ (byteSlot s).exp = s.exp ∧ (byteSlot s).fbq = s.fbq ∧ (byteSlot s).lrx = s.lrx ∧
    (byteSlot s).timer = s.timer ∧ (byteSlot s).sweep = s.sweep ∧ (byteSlot s).host = s.host ∧
    (byteSlot s).cu = s.cu := by
  simp [byteSlot]

@[simp] theorem lastByteSent_frame (k : FrameKind) (s : State) :
    (lastByteSent k s).pending = s.pending ∧ (lastByteSent k s).cfg = s.cfg ∧ (lastByteSent k s).banks = s.banks ∧
    (lastByteSent k s).store = s.store ∧ (lastByteSent k s).arb = s.arb ∧ (lastByteSent k s).exp = s.exp ∧
    (lastByteSent k s).comp = s.comp ∧ (lastByteSent k s).fbq = s.fbq ∧ (lastByteSent k s).lrx = s.lrx ∧
    (lastByteSent k s).timer = s.timer ∧ (lastByteSent k s).sweep = s.sweep ∧ (lastByteSent k s).host = s.host ∧
    (lastByteSent k s).cu = s.cu ∧ (lastByteSent k s).stat = s.stat := by
  simp [lastByteSent]

@[simp] theorem setCts_frame (v : Bool) (s : State) :
    (setCts v s).pending = s.pending ∧ (setCts v s).cfg = s.cfg ∧ (setCts v s).banks = s.banks ∧
    (setCts v s).store = s.store ∧ (setCts v s).arb = s.arb ∧ (setCts v s).exp = s.exp ∧ (setCts v s).comp = s.comp ∧
    (setCts v s).fbq = s.fbq ∧ (setCts v s).lrx = s.lrx ∧ (setCts v s).ltx = s.ltx ∧ (setCts v s).timer = s.timer ∧
    (setCts v s).sweep = s.sweep ∧ (setCts v s).stats = s.stats ∧ (setCts v s).host = s.host ∧
    (setCts v s).cu = s.cu ∧ (setCts v s).stat = s.stat := by
  simp [setCts]

@[simp] theorem startTransmitter_frame (s : State) :
    (startTransmitter s).pending = s.pending ∧ (startTransmitter s).pins = s.pins ∧
    (startTransmitter s).cfg = s.cfg ∧ (startTransmitter s).banks = s.banks ∧ (startTransmitter s).store = s.store ∧
    (startTransmitter s).arb = s.arb ∧ (startTransmitter s).exp = s.exp ∧ (startTransmitter s).comp = s.comp ∧
    (startTransmitter s).fbq = s.fbq ∧ (startTransmitter s).lrx = s.lrx ∧ (startTransmitter s).timer = s.timer ∧
    (startTransmitter s).sweep = s.sweep ∧ (startTransmitter s).stats = s.stats ∧
    (startTransmitter s).host = s.host ∧ (startTransmitter s).cu = s.cu ∧ (startTransmitter s).stat = s.stat := by
  unfold startTransmitter; (repeat' split) <;> simp

@[simp] theorem writeTransmitEnable_frame (v : Bool) (s : State) :
    (writeTransmitEnable v s).pending = s.pending ∧ (writeTransmitEnable v s).pins = s.pins ∧
    (writeTransmitEnable v s).cfg = s.cfg ∧ (writeTransmitEnable v s).banks = s.banks ∧
    (writeTransmitEnable v s).store = s.store ∧ (writeTransmitEnable v s).exp = s.exp ∧
    (writeTransmitEnable v s).fbq = s.fbq ∧ (writeTransmitEnable v s).lrx = s.lrx ∧
    (writeTransmitEnable v s).timer = s.timer ∧ (writeTransmitEnable v s).sweep = s.sweep ∧
    (writeTransmitEnable v s).host = s.host ∧ (writeTransmitEnable v s).cu = s.cu := by
  unfold writeTransmitEnable; dsimp only; (repeat' split) <;> simp

@[simp] theorem sendFull_frame (n : Ctx) (st : TxState) (c : Contents) (m : Message) (s : State) :
    (sendFull n st c m s).1.pending = s.pending ∧ (sendFull n st c m s).1.pins = s.pins ∧
    (sendFull n st c m s).1.cfg = s.cfg ∧ (sendFull n st c m s).1.banks = s.banks ∧
    (sendFull n st c m s).1.arb = s.arb ∧ (sendFull n st c m s).1.exp = s.exp ∧
    (sendFull n st c m s).1.comp = s.comp ∧ (sendFull n st c m s).1.fbq = s.fbq ∧
    (sendFull n st c m s).1.lrx = s.lrx ∧ (sendFull n st c m s).1.ltx = s.ltx ∧
    (sendFull n st c m s).1.timer = s.timer ∧ (sendFull n st c m s).1.sweep = s.sweep ∧
    (sendFull n st c m s).1.stats = s.stats ∧ (sendFull n st c m s).1.host = s.host ∧
    (sendFull n st c m s).1.cu = s.cu := by
  simp [sendFull]

@[simp] theorem sendFrom_frame (n : Ctx) (m : Message) (s : State) :
    (sendFrom n m s).1.pending = s.pending ∧ (sendFrom n m s).1.pins = s.pins ∧ (sendFrom n m s).1.cfg = s.cfg ∧
    (sendFrom n m s).1.banks = s.banks ∧ (sendFrom n m s).1.arb = s.arb ∧ (sendFrom n m s).1.exp = s.exp ∧
    (sendFrom n m s).1.comp = s.comp ∧ (sendFrom n m s).1.fbq = s.fbq ∧ (sendFrom n m s).1.lrx = s.lrx ∧
    (sendFrom n m s).1.ltx = s.ltx ∧ (sendFrom n m s).1.timer = s.timer ∧ (sendFrom n m s).1.sweep = s.sweep ∧
    (sendFrom n m s).1.stats = s.stats ∧ (sendFrom n m s).1.host = s.host ∧ (sendFrom n m s).1.cu = s.cu := by
  unfold sendFrom; dsimp only; (repeat' split) <;> simp

@[simp] theorem openContext_frame (n : Ctx) (i : Fin 4) (m : Message) (s : State) :
    (openContext n i m s).1.pending = s.pending ∧ (openContext n i m s).1.pins = s.pins ∧
    (openContext n i m s).1.cfg = s.cfg ∧ (openContext n i m s).1.banks = s.banks ∧
    (openContext n i m s).1.arb = s.arb ∧ (openContext n i m s).1.exp = s.exp ∧
    (openContext n i m s).1.comp = s.comp ∧ (openContext n i m s).1.fbq = s.fbq ∧
    (openContext n i m s).1.lrx = s.lrx ∧ (openContext n i m s).1.ltx = s.ltx ∧
    (openContext n i m s).1.timer = s.timer ∧ (openContext n i m s).1.sweep = s.sweep ∧
    (openContext n i m s).1.stats = s.stats ∧ (openContext n i m s).1.host = s.host ∧
    (openContext n i m s).1.cu = s.cu := by
  simp [openContext]

@[simp] theorem readCandidates_frame (k : Key) (l : List (Fin 4)) (s : State) :
    (readCandidates k l s).pending = s.pending ∧ (readCandidates k l s).pins = s.pins ∧
    (readCandidates k l s).cfg = s.cfg ∧ (readCandidates k l s).banks = s.banks ∧
    (readCandidates k l s).arb = s.arb ∧ (readCandidates k l s).exp = s.exp ∧ (readCandidates k l s).comp = s.comp ∧
    (readCandidates k l s).fbq = s.fbq ∧ (readCandidates k l s).lrx = s.lrx ∧ (readCandidates k l s).ltx = s.ltx ∧
    (readCandidates k l s).timer = s.timer ∧ (readCandidates k l s).sweep = s.sweep ∧
    (readCandidates k l s).host = s.host ∧ (readCandidates k l s).cu = s.cu := by
  induction l generalizing s with
  | nil => simp [readCandidates]
  | cons i is ih =>
    unfold readCandidates
    split
    · simp [ih]
    · split <;> simp [ih]

@[simp] theorem evict_frame (i : Fin 4) (v : Ctx) (m : Message) (s : State) :
    (evict i v m s).1.pending = s.pending ∧ (evict i v m s).1.pins = s.pins ∧ (evict i v m s).1.cfg = s.cfg ∧
    (evict i v m s).1.banks = s.banks ∧ (evict i v m s).1.arb = s.arb ∧ (evict i v m s).1.exp = s.exp ∧
    (evict i v m s).1.comp = s.comp ∧ (evict i v m s).1.fbq = s.fbq ∧ (evict i v m s).1.lrx = s.lrx ∧
    (evict i v m s).1.ltx = s.ltx ∧ (evict i v m s).1.timer = s.timer ∧ (evict i v m s).1.sweep = s.sweep ∧
    (evict i v m s).1.host = s.host ∧ (evict i v m s).1.cu = s.cu := by
  simp [evict]

@[simp] theorem sendRaw_frame (m : Message) (s : State) :
    (sendRaw m s).1.pending = s.pending ∧ (sendRaw m s).1.pins = s.pins ∧ (sendRaw m s).1.cfg = s.cfg ∧
    (sendRaw m s).1.banks = s.banks ∧ (sendRaw m s).1.store = s.store ∧ (sendRaw m s).1.arb = s.arb ∧
    (sendRaw m s).1.exp = s.exp ∧ (sendRaw m s).1.comp = s.comp ∧ (sendRaw m s).1.fbq = s.fbq ∧
    (sendRaw m s).1.lrx = s.lrx ∧ (sendRaw m s).1.ltx = s.ltx ∧ (sendRaw m s).1.timer = s.timer ∧
    (sendRaw m s).1.sweep = s.sweep ∧ (sendRaw m s).1.host = s.host ∧ (sendRaw m s).1.cu = s.cu ∧
    (sendRaw m s).1.stat = s.stat := by
  simp [sendRaw]

@[simp] theorem afterCandidates_frame (m : Message) (s : State) :
    (afterCandidates m s).1.pending = s.pending ∧ (afterCandidates m s).1.pins = s.pins ∧
    (afterCandidates m s).1.cfg = s.cfg ∧ (afterCandidates m s).1.banks = s.banks ∧
    (afterCandidates m s).1.arb = s.arb ∧ (afterCandidates m s).1.exp = s.exp ∧
    (afterCandidates m s).1.comp = s.comp ∧ (afterCandidates m s).1.fbq = s.fbq ∧
    (afterCandidates m s).1.lrx = s.lrx ∧ (afterCandidates m s).1.ltx = s.ltx ∧
    (afterCandidates m s).1.timer = s.timer ∧ (afterCandidates m s).1.sweep = s.sweep ∧
    (afterCandidates m s).1.host = s.host ∧ (afterCandidates m s).1.cu = s.cu := by
  unfold afterCandidates; dsimp only; (repeat' split) <;> simp

@[simp] theorem noMatch_frame (m : Message) (s : State) :
    (noMatch m s).1.pending = s.pending ∧ (noMatch m s).1.pins = s.pins ∧ (noMatch m s).1.cfg = s.cfg ∧
    (noMatch m s).1.banks = s.banks ∧ (noMatch m s).1.arb = s.arb ∧ (noMatch m s).1.exp = s.exp ∧
    (noMatch m s).1.comp = s.comp ∧ (noMatch m s).1.fbq = s.fbq ∧ (noMatch m s).1.lrx = s.lrx ∧
    (noMatch m s).1.ltx = s.ltx ∧ (noMatch m s).1.timer = s.timer ∧ (noMatch m s).1.sweep = s.sweep ∧
    (noMatch m s).1.host = s.host ∧ (noMatch m s).1.cu = s.cu := by
  unfold noMatch; dsimp only; (repeat' split) <;> simp

@[simp] theorem takeMessage_frame (m : Message) (s : State) :
    (takeMessage m s).1.pending = s.pending ∧ (takeMessage m s).1.pins = s.pins ∧ (takeMessage m s).1.cfg = s.cfg ∧
    (takeMessage m s).1.banks = s.banks ∧ (takeMessage m s).1.arb = s.arb ∧ (takeMessage m s).1.exp = s.exp ∧
    (takeMessage m s).1.comp = s.comp ∧ (takeMessage m s).1.fbq = s.fbq ∧ (takeMessage m s).1.lrx = s.lrx ∧
    (takeMessage m s).1.ltx = s.ltx ∧ (takeMessage m s).1.timer = s.timer ∧ (takeMessage m s).1.sweep = s.sweep ∧
    (takeMessage m s).1.host = s.host ∧ (takeMessage m s).1.cu = s.cu := by
  unfold takeMessage
  have h := search_frame .compressor (Header.ofBytes m).key s
  split <;> rename_i heq <;> rw [heq] at h <;> dsimp only at h <;> simp [h]

@[simp] theorem endTake_frame (f : TxFormat) (w : TakeFate) (b : Built) (s : State) :
    (endTake f w b s).pending = s.pending ∧ (endTake f w b s).pins = s.pins ∧ (endTake f w b s).cfg = s.cfg ∧
    (endTake f w b s).banks = s.banks ∧ (endTake f w b s).store = s.store ∧ (endTake f w b s).exp = s.exp ∧
    (endTake f w b s).fbq = s.fbq ∧ (endTake f w b s).lrx = s.lrx ∧ (endTake f w b s).timer = s.timer ∧
    (endTake f w b s).sweep = s.sweep ∧ (endTake f w b s).host = s.host ∧ (endTake f w b s).cu = s.cu := by
  unfold endTake; (repeat' split) <;> simp

@[simp] theorem takeGranted_frame (m : Message) (f : TxFormat) (w : TakeFate) (s : State) :
    (takeGranted m f w s).pending = s.pending ∧ (takeGranted m f w s).pins = s.pins ∧
    (takeGranted m f w s).cfg = s.cfg ∧ (takeGranted m f w s).banks = s.banks ∧ (takeGranted m f w s).exp = s.exp ∧
    (takeGranted m f w s).fbq = s.fbq ∧ (takeGranted m f w s).lrx = s.lrx ∧ (takeGranted m f w s).timer = s.timer ∧
    (takeGranted m f w s).sweep = s.sweep ∧ (takeGranted m f w s).host = s.host ∧ (takeGranted m f w s).cu = s.cu := by
  simp [takeGranted]

@[simp] theorem abortGranted_frame (n : Ctx) (s : State) :
    (abortGranted n s).pending = s.pending ∧ (abortGranted n s).pins = s.pins ∧ (abortGranted n s).cfg = s.cfg ∧
    (abortGranted n s).banks = s.banks ∧ (abortGranted n s).exp = s.exp ∧ (abortGranted n s).fbq = s.fbq ∧
    (abortGranted n s).lrx = s.lrx ∧ (abortGranted n s).timer = s.timer ∧ (abortGranted n s).sweep = s.sweep ∧
    (abortGranted n s).host = s.host ∧ (abortGranted n s).cu = s.cu := by
  simp [abortGranted]

@[simp] theorem sweepPeriod_frame (s : State) :
    (sweepPeriod s).pending = s.pending ∧ (sweepPeriod s).pins = s.pins ∧ (sweepPeriod s).cfg = s.cfg ∧
    (sweepPeriod s).banks = s.banks ∧ (sweepPeriod s).store = s.store ∧ (sweepPeriod s).exp = s.exp ∧
    (sweepPeriod s).comp = s.comp ∧ (sweepPeriod s).fbq = s.fbq ∧ (sweepPeriod s).lrx = s.lrx ∧
    (sweepPeriod s).ltx = s.ltx ∧ (sweepPeriod s).timer = s.timer ∧ (sweepPeriod s).host = s.host ∧
    (sweepPeriod s).cu = s.cu := by
  unfold sweepPeriod; (repeat' split) <;> simp

@[simp] theorem boundaryPeriod_frame (s : State) :
    (boundaryPeriod s).pending = s.pending ∧ (boundaryPeriod s).pins = s.pins ∧ (boundaryPeriod s).cfg = s.cfg ∧
    (boundaryPeriod s).banks = s.banks ∧ (boundaryPeriod s).arb = s.arb ∧ (boundaryPeriod s).exp = s.exp ∧
    (boundaryPeriod s).comp = s.comp ∧ (boundaryPeriod s).fbq = s.fbq ∧ (boundaryPeriod s).lrx = s.lrx ∧
    (boundaryPeriod s).ltx = s.ltx ∧ (boundaryPeriod s).timer = s.timer ∧ (boundaryPeriod s).sweep = s.sweep ∧
    (boundaryPeriod s).host = s.host ∧ (boundaryPeriod s).cu = s.cu := by
  unfold boundaryPeriod; split <;> simp

@[simp] theorem silencePeriod_frame (s : State) :
    (silencePeriod s).pending = s.pending ∧ (silencePeriod s).pins = s.pins ∧ (silencePeriod s).cfg = s.cfg ∧
    (silencePeriod s).banks = s.banks ∧ (silencePeriod s).store = s.store ∧ (silencePeriod s).arb = s.arb ∧
    (silencePeriod s).exp = s.exp ∧ (silencePeriod s).comp = s.comp ∧ (silencePeriod s).fbq = s.fbq ∧
    (silencePeriod s).ltx = s.ltx ∧ (silencePeriod s).timer = s.timer ∧ (silencePeriod s).sweep = s.sweep ∧
    (silencePeriod s).stats = s.stats ∧ (silencePeriod s).host = s.host ∧ (silencePeriod s).cu = s.cu := by
  unfold silencePeriod; dsimp only; (repeat' split) <;> simp

@[simp] theorem period_frame (s : State) :
    (period s).pending = s.pending ∧ (period s).pins = s.pins ∧ (period s).cfg = s.cfg ∧ (period s).banks = s.banks ∧
    (period s).exp = s.exp ∧ (period s).comp = s.comp ∧ (period s).fbq = s.fbq ∧ (period s).ltx = s.ltx ∧
    (period s).timer = s.timer ∧ (period s).host = s.host ∧ (period s).cu = s.cu := by
  simp [period]

@[simp] theorem reloadTimer_frame (s : State) :
    (reloadTimer s).pending = s.pending ∧ (reloadTimer s).pins = s.pins ∧ (reloadTimer s).cfg = s.cfg ∧
    (reloadTimer s).banks = s.banks ∧ (reloadTimer s).store = s.store ∧ (reloadTimer s).arb = s.arb ∧
    (reloadTimer s).exp = s.exp ∧ (reloadTimer s).comp = s.comp ∧ (reloadTimer s).fbq = s.fbq ∧
    (reloadTimer s).lrx = s.lrx ∧ (reloadTimer s).ltx = s.ltx ∧ (reloadTimer s).sweep = s.sweep ∧
    (reloadTimer s).stats = s.stats ∧ (reloadTimer s).host = s.host ∧ (reloadTimer s).cu = s.cu ∧
    (reloadTimer s).stat = s.stat := by
  simp [reloadTimer]

@[simp] theorem advance_frame (s : State) :
    (advance s).pending = s.pending ∧ (advance s).pins = s.pins ∧ (advance s).cfg = s.cfg ∧
    (advance s).banks = s.banks ∧ (advance s).exp = s.exp ∧ (advance s).comp = s.comp ∧ (advance s).fbq = s.fbq ∧
    (advance s).ltx = s.ltx ∧ (advance s).host = s.host ∧ (advance s).cu = s.cu := by
  unfold advance; (repeat' split) <;> simp

@[simp] theorem singleIncrement_frame (s : State) :
    (singleIncrement s).pending = s.pending ∧ (singleIncrement s).pins = s.pins ∧ (singleIncrement s).cfg = s.cfg ∧
    (singleIncrement s).banks = s.banks ∧ (singleIncrement s).exp = s.exp ∧ (singleIncrement s).comp = s.comp ∧
    (singleIncrement s).fbq = s.fbq ∧ (singleIncrement s).ltx = s.ltx ∧ (singleIncrement s).host = s.host ∧
    (singleIncrement s).cu = s.cu := by
  unfold singleIncrement; (repeat' split) <;> simp

@[simp] theorem writeRun_frame (v : Bool) (s : State) :
    (writeRun v s).pending = s.pending ∧ (writeRun v s).pins = s.pins ∧ (writeRun v s).cfg = s.cfg ∧
    (writeRun v s).banks = s.banks ∧ (writeRun v s).store = s.store ∧ (writeRun v s).arb = s.arb ∧
    (writeRun v s).exp = s.exp ∧ (writeRun v s).comp = s.comp ∧ (writeRun v s).fbq = s.fbq ∧
    (writeRun v s).lrx = s.lrx ∧ (writeRun v s).ltx = s.ltx ∧ (writeRun v s).sweep = s.sweep ∧
    (writeRun v s).stats = s.stats ∧ (writeRun v s).host = s.host ∧ (writeRun v s).cu = s.cu ∧
    (writeRun v s).stat = s.stat := by
  simp [writeRun]

@[simp] theorem visitRx_frame (n : Ctx) (s : State) :
    (visitRx n s).pending = s.pending ∧ (visitRx n s).pins = s.pins ∧ (visitRx n s).cfg = s.cfg ∧
    (visitRx n s).banks = s.banks ∧ (visitRx n s).arb = s.arb ∧ (visitRx n s).exp = s.exp ∧
    (visitRx n s).comp = s.comp ∧ (visitRx n s).lrx = s.lrx ∧ (visitRx n s).ltx = s.ltx ∧
    (visitRx n s).timer = s.timer ∧ (visitRx n s).sweep = s.sweep ∧ (visitRx n s).host = s.host ∧
    (visitRx n s).cu = s.cu := by
  unfold visitRx; dsimp only; (repeat' split) <;> simp

@[simp] theorem visitTx_frame (n : Ctx) (s : State) :
    (visitTx n s).pending = s.pending ∧ (visitTx n s).pins = s.pins ∧ (visitTx n s).cfg = s.cfg ∧
    (visitTx n s).banks = s.banks ∧ (visitTx n s).arb = s.arb ∧ (visitTx n s).exp = s.exp ∧
    (visitTx n s).comp = s.comp ∧ (visitTx n s).fbq = s.fbq ∧ (visitTx n s).lrx = s.lrx ∧ (visitTx n s).ltx = s.ltx ∧
    (visitTx n s).timer = s.timer ∧ (visitTx n s).sweep = s.sweep ∧ (visitTx n s).host = s.host ∧
    (visitTx n s).cu = s.cu := by
  unfold visitTx; dsimp only; (repeat' split) <;> simp

@[simp] theorem visit_frame (i : BitVec 9) (s : State) :
    (visit i s).pending = s.pending ∧ (visit i s).pins = s.pins ∧ (visit i s).cfg = s.cfg ∧
    (visit i s).banks = s.banks ∧ (visit i s).arb = s.arb ∧ (visit i s).exp = s.exp ∧ (visit i s).comp = s.comp ∧
    (visit i s).lrx = s.lrx ∧ (visit i s).ltx = s.ltx ∧ (visit i s).timer = s.timer ∧ (visit i s).sweep = s.sweep ∧
    (visit i s).host = s.host ∧ (visit i s).cu = s.cu := by
  unfold visit; (repeat' split) <;> simp

@[simp] theorem endVisit_frame (i : BitVec 9) (s : State) :
    (endVisit i s).pending = s.pending ∧ (endVisit i s).pins = s.pins ∧ (endVisit i s).cfg = s.cfg ∧
    (endVisit i s).banks = s.banks ∧ (endVisit i s).store = s.store ∧ (endVisit i s).exp = s.exp ∧
    (endVisit i s).comp = s.comp ∧ (endVisit i s).fbq = s.fbq ∧ (endVisit i s).lrx = s.lrx ∧
    (endVisit i s).ltx = s.ltx ∧ (endVisit i s).timer = s.timer ∧ (endVisit i s).stats = s.stats ∧
    (endVisit i s).host = s.host ∧ (endVisit i s).cu = s.cu ∧ (endVisit i s).stat = s.stat := by
  unfold endVisit; (repeat' split) <;> simp

@[simp] theorem linkResetHost_frame (s : State) :
    (linkResetHost s).pending = s.pending ∧ (linkResetHost s).pins = s.pins ∧ (linkResetHost s).cfg = s.cfg ∧
    (linkResetHost s).banks = s.banks ∧ (linkResetHost s).store = s.store ∧ (linkResetHost s).arb = s.arb ∧
    (linkResetHost s).exp = s.exp ∧ (linkResetHost s).comp = s.comp ∧ (linkResetHost s).fbq = s.fbq ∧
    (linkResetHost s).lrx = s.lrx ∧ (linkResetHost s).ltx = s.ltx ∧ (linkResetHost s).timer = s.timer ∧
    (linkResetHost s).sweep = s.sweep ∧ (linkResetHost s).stats = s.stats ∧ (linkResetHost s).cu = s.cu ∧
    (linkResetHost s).stat = s.stat := by
  simp [linkResetHost]

@[simp] theorem linkResetReceiver_frame (s : State) :
    (linkResetReceiver s).pending = s.pending ∧ (linkResetReceiver s).pins = s.pins ∧
    (linkResetReceiver s).cfg = s.cfg ∧ (linkResetReceiver s).banks = s.banks ∧
    (linkResetReceiver s).store = s.store ∧ (linkResetReceiver s).arb = s.arb ∧ (linkResetReceiver s).exp = s.exp ∧
    (linkResetReceiver s).comp = s.comp ∧ (linkResetReceiver s).fbq = s.fbq ∧ (linkResetReceiver s).ltx = s.ltx ∧
    (linkResetReceiver s).timer = s.timer ∧ (linkResetReceiver s).sweep = s.sweep ∧
    (linkResetReceiver s).stats = s.stats ∧ (linkResetReceiver s).host = s.host ∧ (linkResetReceiver s).cu = s.cu := by
  simp [linkResetReceiver]

@[simp] theorem linkResetExpander_frame (s : State) :
    (linkResetExpander s).pending = s.pending ∧ (linkResetExpander s).pins = s.pins ∧
    (linkResetExpander s).cfg = s.cfg ∧ (linkResetExpander s).banks = s.banks ∧
    (linkResetExpander s).store = s.store ∧ (linkResetExpander s).arb = s.arb ∧
    (linkResetExpander s).comp = s.comp ∧ (linkResetExpander s).fbq = s.fbq ∧
    (linkResetExpander s).lrx = s.lrx ∧ (linkResetExpander s).ltx = s.ltx ∧
    (linkResetExpander s).timer = s.timer ∧ (linkResetExpander s).sweep = s.sweep ∧
    (linkResetExpander s).stats = s.stats ∧ (linkResetExpander s).host = s.host ∧
    (linkResetExpander s).cu = s.cu ∧ (linkResetExpander s).stat = s.stat := by
  simp [linkResetExpander]

@[simp] theorem linkResetTransmitter_frame (s : State) :
    (linkResetTransmitter s).pending = s.pending ∧ (linkResetTransmitter s).pins = s.pins ∧
    (linkResetTransmitter s).cfg = s.cfg ∧ (linkResetTransmitter s).banks = s.banks ∧
    (linkResetTransmitter s).store = s.store ∧ (linkResetTransmitter s).exp = s.exp ∧
    (linkResetTransmitter s).fbq = s.fbq ∧ (linkResetTransmitter s).lrx = s.lrx ∧
    (linkResetTransmitter s).timer = s.timer ∧ (linkResetTransmitter s).sweep = s.sweep ∧
    (linkResetTransmitter s).host = s.host ∧ (linkResetTransmitter s).cu = s.cu := by
  unfold linkResetTransmitter; split <;> simp

@[simp] theorem linkReset_frame (s : State) :
    (linkReset s).pending = s.pending ∧ (linkReset s).pins = s.pins ∧ (linkReset s).cfg = s.cfg ∧
    (linkReset s).banks = s.banks ∧ (linkReset s).store = s.store ∧ (linkReset s).timer = s.timer ∧
    (linkReset s).sweep = s.sweep ∧ (linkReset s).cu = s.cu := by
  simp [linkReset]

@[simp] theorem damageRx_frame (n : Ctx) (l : List Nat) (s : State) :
    (damageRx n l s).pending = s.pending ∧ (damageRx n l s).pins = s.pins ∧ (damageRx n l s).cfg = s.cfg ∧
    (damageRx n l s).banks = s.banks ∧ (damageRx n l s).arb = s.arb ∧ (damageRx n l s).exp = s.exp ∧
    (damageRx n l s).comp = s.comp ∧ (damageRx n l s).fbq = s.fbq ∧ (damageRx n l s).lrx = s.lrx ∧
    (damageRx n l s).ltx = s.ltx ∧ (damageRx n l s).timer = s.timer ∧ (damageRx n l s).sweep = s.sweep ∧
    (damageRx n l s).stats = s.stats ∧ (damageRx n l s).host = s.host ∧ (damageRx n l s).cu = s.cu ∧
    (damageRx n l s).stat = s.stat := by
  simp [damageRx]

@[simp] theorem damageTx_frame (n : Ctx) (l : List Nat) (s : State) :
    (damageTx n l s).pending = s.pending ∧ (damageTx n l s).pins = s.pins ∧ (damageTx n l s).cfg = s.cfg ∧
    (damageTx n l s).banks = s.banks ∧ (damageTx n l s).arb = s.arb ∧ (damageTx n l s).exp = s.exp ∧
    (damageTx n l s).comp = s.comp ∧ (damageTx n l s).fbq = s.fbq ∧ (damageTx n l s).lrx = s.lrx ∧
    (damageTx n l s).ltx = s.ltx ∧ (damageTx n l s).timer = s.timer ∧ (damageTx n l s).sweep = s.sweep ∧
    (damageTx n l s).stats = s.stats ∧ (damageTx n l s).host = s.host ∧ (damageTx n l s).cu = s.cu ∧
    (damageTx n l s).stat = s.stat := by
  simp [damageTx]

@[simp] theorem complete_frame (r : Result) (s : State) :
    (complete r s).pending = s.pending ∧ (complete r s).pins = s.pins ∧ (complete r s).cfg = s.cfg ∧
    (complete r s).banks = s.banks ∧ (complete r s).store = s.store ∧ (complete r s).arb = s.arb ∧
    (complete r s).exp = s.exp ∧ (complete r s).comp = s.comp ∧ (complete r s).fbq = s.fbq ∧
    (complete r s).lrx = s.lrx ∧ (complete r s).ltx = s.ltx ∧ (complete r s).timer = s.timer ∧
    (complete r s).sweep = s.sweep ∧ (complete r s).stats = s.stats ∧ (complete r s).host = s.host := by
  simp [complete]

@[simp] theorem refuseBusy_frame (s : State) :
    (refuseBusy s).pending = s.pending ∧ (refuseBusy s).pins = s.pins ∧ (refuseBusy s).cfg = s.cfg ∧
    (refuseBusy s).banks = s.banks ∧ (refuseBusy s).store = s.store ∧ (refuseBusy s).arb = s.arb ∧
    (refuseBusy s).exp = s.exp ∧ (refuseBusy s).comp = s.comp ∧ (refuseBusy s).fbq = s.fbq ∧
    (refuseBusy s).lrx = s.lrx ∧ (refuseBusy s).ltx = s.ltx ∧ (refuseBusy s).timer = s.timer ∧
    (refuseBusy s).sweep = s.sweep ∧ (refuseBusy s).stats = s.stats ∧ (refuseBusy s).host = s.host := by
  simp [refuseBusy]

@[simp] theorem acceptCommand_frame (s : State) :
    (acceptCommand s).pending = s.pending ∧ (acceptCommand s).pins = s.pins ∧ (acceptCommand s).cfg = s.cfg ∧
    (acceptCommand s).banks = s.banks ∧ (acceptCommand s).store = s.store ∧ (acceptCommand s).arb = s.arb ∧
    (acceptCommand s).exp = s.exp ∧ (acceptCommand s).comp = s.comp ∧ (acceptCommand s).fbq = s.fbq ∧
    (acceptCommand s).lrx = s.lrx ∧ (acceptCommand s).ltx = s.ltx ∧ (acceptCommand s).timer = s.timer ∧
    (acceptCommand s).sweep = s.sweep ∧ (acceptCommand s).stats = s.stats ∧ (acceptCommand s).host = s.host ∧
    (acceptCommand s).stat = s.stat := by
  simp [acceptCommand]

@[simp] theorem startTransaction_frame (c : StoreCmd) (s : State) :
    (startTransaction c s).pending = s.pending ∧ (startTransaction c s).pins = s.pins ∧
    (startTransaction c s).cfg = s.cfg ∧ (startTransaction c s).banks = s.banks ∧
    (startTransaction c s).store = s.store ∧ (startTransaction c s).exp = s.exp ∧
    (startTransaction c s).comp = s.comp ∧ (startTransaction c s).fbq = s.fbq ∧ (startTransaction c s).lrx = s.lrx ∧
    (startTransaction c s).ltx = s.ltx ∧ (startTransaction c s).timer = s.timer ∧
    (startTransaction c s).sweep = s.sweep ∧ (startTransaction c s).stats = s.stats ∧
    (startTransaction c s).host = s.host ∧ (startTransaction c s).stat = s.stat := by
  simp [startTransaction]

@[simp] theorem startWalk_frame (d : Dir) (s : State) :
    (startWalk d s).pending = s.pending ∧ (startWalk d s).pins = s.pins ∧ (startWalk d s).cfg = s.cfg ∧
    (startWalk d s).banks = s.banks ∧ (startWalk d s).store = s.store ∧ (startWalk d s).exp = s.exp ∧
    (startWalk d s).comp = s.comp ∧ (startWalk d s).fbq = s.fbq ∧ (startWalk d s).lrx = s.lrx ∧
    (startWalk d s).ltx = s.ltx ∧ (startWalk d s).timer = s.timer ∧ (startWalk d s).sweep = s.sweep ∧
    (startWalk d s).stats = s.stats ∧ (startWalk d s).host = s.host ∧ (startWalk d s).stat = s.stat := by
  simp [startWalk]

@[simp] theorem openBank_frame (k : BankId) (s : State) :
    (openBank k s).pending = s.pending ∧ (openBank k s).pins = s.pins ∧ (openBank k s).cfg = s.cfg ∧
    (openBank k s).store = s.store ∧ (openBank k s).arb = s.arb ∧ (openBank k s).exp = s.exp ∧
    (openBank k s).comp = s.comp ∧ (openBank k s).fbq = s.fbq ∧ (openBank k s).lrx = s.lrx ∧
    (openBank k s).ltx = s.ltx ∧ (openBank k s).timer = s.timer ∧ (openBank k s).sweep = s.sweep ∧
    (openBank k s).stats = s.stats ∧ (openBank k s).host = s.host := by
  unfold openBank; (repeat' split) <;> simp

@[simp] theorem closeBank_frame (k : BankId) (s : State) :
    (closeBank k s).pending = s.pending ∧ (closeBank k s).pins = s.pins ∧ (closeBank k s).cfg = s.cfg ∧
    (closeBank k s).store = s.store ∧ (closeBank k s).arb = s.arb ∧ (closeBank k s).exp = s.exp ∧
    (closeBank k s).comp = s.comp ∧ (closeBank k s).fbq = s.fbq ∧ (closeBank k s).lrx = s.lrx ∧
    (closeBank k s).ltx = s.ltx ∧ (closeBank k s).timer = s.timer ∧ (closeBank k s).sweep = s.sweep ∧
    (closeBank k s).stats = s.stats ∧ (closeBank k s).host = s.host := by
  unfold closeBank; (repeat' split) <;> simp

@[simp] theorem selectBank_frame (k : BankId) (s : State) :
    (selectBank k s).pending = s.pending ∧ (selectBank k s).pins = s.pins ∧ (selectBank k s).cfg = s.cfg ∧
    (selectBank k s).banks = s.banks ∧ (selectBank k s).store = s.store ∧ (selectBank k s).arb = s.arb ∧
    (selectBank k s).exp = s.exp ∧ (selectBank k s).fbq = s.fbq ∧ (selectBank k s).lrx = s.lrx ∧
    (selectBank k s).ltx = s.ltx ∧ (selectBank k s).timer = s.timer ∧ (selectBank k s).sweep = s.sweep ∧
    (selectBank k s).stats = s.stats ∧ (selectBank k s).host = s.host := by
  unfold selectBank; (repeat' split) <;> simp

@[simp] theorem snapshotNow_frame (s : State) :
    (snapshotNow s).pending = s.pending ∧ (snapshotNow s).pins = s.pins ∧ (snapshotNow s).cfg = s.cfg ∧
    (snapshotNow s).banks = s.banks ∧ (snapshotNow s).arb = s.arb ∧ (snapshotNow s).exp = s.exp ∧
    (snapshotNow s).comp = s.comp ∧ (snapshotNow s).fbq = s.fbq ∧ (snapshotNow s).lrx = s.lrx ∧
    (snapshotNow s).ltx = s.ltx ∧ (snapshotNow s).timer = s.timer ∧ (snapshotNow s).sweep = s.sweep ∧
    (snapshotNow s).host = s.host ∧ (snapshotNow s).cu = s.cu := by
  simp [snapshotNow]

@[simp] theorem setWindow_frame (w : Vector Word 8) (s : State) :
    (setWindow w s).pending = s.pending ∧ (setWindow w s).pins = s.pins ∧ (setWindow w s).cfg = s.cfg ∧
    (setWindow w s).banks = s.banks ∧ (setWindow w s).store = s.store ∧ (setWindow w s).arb = s.arb ∧
    (setWindow w s).exp = s.exp ∧ (setWindow w s).comp = s.comp ∧ (setWindow w s).fbq = s.fbq ∧
    (setWindow w s).lrx = s.lrx ∧ (setWindow w s).ltx = s.ltx ∧ (setWindow w s).timer = s.timer ∧
    (setWindow w s).sweep = s.sweep ∧ (setWindow w s).stats = s.stats ∧ (setWindow w s).host = s.host ∧
    (setWindow w s).stat = s.stat := by
  simp [setWindow]

@[simp] theorem readRxWork_frame (n : Ctx) (s : State) :
    (readRxWork n s).pending = s.pending ∧ (readRxWork n s).pins = s.pins ∧ (readRxWork n s).cfg = s.cfg ∧
    (readRxWork n s).banks = s.banks ∧ (readRxWork n s).arb = s.arb ∧ (readRxWork n s).exp = s.exp ∧
    (readRxWork n s).comp = s.comp ∧ (readRxWork n s).fbq = s.fbq ∧ (readRxWork n s).lrx = s.lrx ∧
    (readRxWork n s).ltx = s.ltx ∧ (readRxWork n s).timer = s.timer ∧ (readRxWork n s).sweep = s.sweep ∧
    (readRxWork n s).host = s.host := by
  unfold readRxWork; simp

@[simp] theorem readTxWork_frame (n : Ctx) (s : State) :
    (readTxWork n s).pending = s.pending ∧ (readTxWork n s).pins = s.pins ∧ (readTxWork n s).cfg = s.cfg ∧
    (readTxWork n s).banks = s.banks ∧ (readTxWork n s).arb = s.arb ∧ (readTxWork n s).exp = s.exp ∧
    (readTxWork n s).comp = s.comp ∧ (readTxWork n s).fbq = s.fbq ∧ (readTxWork n s).lrx = s.lrx ∧
    (readTxWork n s).ltx = s.ltx ∧ (readTxWork n s).timer = s.timer ∧ (readTxWork n s).sweep = s.sweep ∧
    (readTxWork n s).host = s.host := by
  unfold readTxWork; simp

@[simp] theorem loadRxWork_frame (n : Ctx) (s : State) :
    (loadRxWork n s).pending = s.pending ∧ (loadRxWork n s).pins = s.pins ∧ (loadRxWork n s).cfg = s.cfg ∧
    (loadRxWork n s).banks = s.banks ∧ (loadRxWork n s).arb = s.arb ∧ (loadRxWork n s).exp = s.exp ∧
    (loadRxWork n s).comp = s.comp ∧ (loadRxWork n s).lrx = s.lrx ∧ (loadRxWork n s).ltx = s.ltx ∧
    (loadRxWork n s).timer = s.timer ∧ (loadRxWork n s).sweep = s.sweep ∧ (loadRxWork n s).stats = s.stats ∧
    (loadRxWork n s).host = s.host := by
  unfold loadRxWork; (repeat' split) <;> simp

@[simp] theorem loadTxWork_frame (n : Ctx) (s : State) :
    (loadTxWork n s).pending = s.pending ∧ (loadTxWork n s).pins = s.pins ∧ (loadTxWork n s).cfg = s.cfg ∧
    (loadTxWork n s).banks = s.banks ∧ (loadTxWork n s).arb = s.arb ∧ (loadTxWork n s).exp = s.exp ∧
    (loadTxWork n s).comp = s.comp ∧ (loadTxWork n s).fbq = s.fbq ∧ (loadTxWork n s).lrx = s.lrx ∧
    (loadTxWork n s).ltx = s.ltx ∧ (loadTxWork n s).timer = s.timer ∧ (loadTxWork n s).sweep = s.sweep ∧
    (loadTxWork n s).host = s.host := by
  unfold loadTxWork
  split
  · simp
  · rename_i c _
    have h := search_frame .command c.key s
    split
    · simp
    · split <;> rename_i heq <;> rw [heq] at h <;> dsimp only at h
      · simp [h]
      · split <;> simp [h]

@[simp] theorem pinWork_frame (v : Bool) (d : Dir) (n : Ctx) (s : State) :
    (pinWork v d n s).pending = s.pending ∧ (pinWork v d n s).pins = s.pins ∧ (pinWork v d n s).cfg = s.cfg ∧
    (pinWork v d n s).banks = s.banks ∧ (pinWork v d n s).arb = s.arb ∧ (pinWork v d n s).exp = s.exp ∧
    (pinWork v d n s).comp = s.comp ∧ (pinWork v d n s).fbq = s.fbq ∧ (pinWork v d n s).lrx = s.lrx ∧
    (pinWork v d n s).ltx = s.ltx ∧ (pinWork v d n s).timer = s.timer ∧ (pinWork v d n s).sweep = s.sweep ∧
    (pinWork v d n s).host = s.host := by
  unfold pinWork; dsimp only; (repeat' split) <;> simp

@[simp] theorem setFound_frame (n : Byte) (s : State) :
    (setFound n s).pending = s.pending ∧ (setFound n s).pins = s.pins ∧ (setFound n s).cfg = s.cfg ∧
    (setFound n s).banks = s.banks ∧ (setFound n s).store = s.store ∧ (setFound n s).arb = s.arb ∧
    (setFound n s).exp = s.exp ∧ (setFound n s).comp = s.comp ∧ (setFound n s).fbq = s.fbq ∧
    (setFound n s).lrx = s.lrx ∧ (setFound n s).ltx = s.ltx ∧ (setFound n s).timer = s.timer ∧
    (setFound n s).sweep = s.sweep ∧ (setFound n s).stats = s.stats ∧ (setFound n s).host = s.host ∧
    (setFound n s).stat = s.stat := by
  simp [setFound]

@[simp] theorem findTxWork_frame (s : State) :
    (findTxWork s).pending = s.pending ∧ (findTxWork s).pins = s.pins ∧ (findTxWork s).cfg = s.cfg ∧
    (findTxWork s).banks = s.banks ∧ (findTxWork s).arb = s.arb ∧ (findTxWork s).exp = s.exp ∧
    (findTxWork s).comp = s.comp ∧ (findTxWork s).fbq = s.fbq ∧ (findTxWork s).lrx = s.lrx ∧
    (findTxWork s).ltx = s.ltx ∧ (findTxWork s).timer = s.timer ∧ (findTxWork s).sweep = s.sweep ∧
    (findTxWork s).host = s.host := by
  unfold findTxWork
  have h := search_frame .command (windowKey s.cu.window) s
  split <;> rename_i heq <;> rw [heq] at h <;> dsimp only at h <;> simp [h]

@[simp] theorem clearDegradedWork_frame (s : State) :
    (clearDegradedWork s).pending = s.pending ∧ (clearDegradedWork s).pins = s.pins ∧
    (clearDegradedWork s).cfg = s.cfg ∧ (clearDegradedWork s).banks = s.banks ∧ (clearDegradedWork s).arb = s.arb ∧
    (clearDegradedWork s).exp = s.exp ∧ (clearDegradedWork s).comp = s.comp ∧ (clearDegradedWork s).fbq = s.fbq ∧
    (clearDegradedWork s).lrx = s.lrx ∧ (clearDegradedWork s).ltx = s.ltx ∧ (clearDegradedWork s).timer = s.timer ∧
    (clearDegradedWork s).sweep = s.sweep ∧ (clearDegradedWork s).stats = s.stats ∧
    (clearDegradedWork s).host = s.host := by
  unfold clearDegradedWork; (repeat' split) <;> simp

@[simp] theorem commandWork_frame (c : StoreCmd) (n : Ctx) (d : Dir) (s : State) :
    (commandWork c n d s).pending = s.pending ∧ (commandWork c n d s).pins = s.pins ∧
    (commandWork c n d s).cfg = s.cfg ∧ (commandWork c n d s).banks = s.banks ∧ (commandWork c n d s).arb = s.arb ∧
    (commandWork c n d s).exp = s.exp ∧ (commandWork c n d s).comp = s.comp ∧ (commandWork c n d s).lrx = s.lrx ∧
    (commandWork c n d s).ltx = s.ltx ∧ (commandWork c n d s).timer = s.timer ∧
    (commandWork c n d s).sweep = s.sweep ∧ (commandWork c n d s).host = s.host := by
  cases c <;> simp [commandWork]

@[simp] theorem retire_frame (d : Dir) (n : Ctx) (s : State) :
    (retire d n s).pending = s.pending ∧ (retire d n s).pins = s.pins ∧ (retire d n s).cfg = s.cfg ∧
    (retire d n s).banks = s.banks ∧ (retire d n s).arb = s.arb ∧ (retire d n s).exp = s.exp ∧
    (retire d n s).comp = s.comp ∧ (retire d n s).lrx = s.lrx ∧ (retire d n s).ltx = s.ltx ∧
    (retire d n s).timer = s.timer ∧ (retire d n s).sweep = s.sweep ∧ (retire d n s).stats = s.stats ∧
    (retire d n s).host = s.host ∧ (retire d n s).cu = s.cu := by
  cases d <;> simp [retire]

@[simp] theorem endWalkStep_frame (d : Dir) (i : Byte) (s : State) :
    (endWalkStep d i s).pending = s.pending ∧ (endWalkStep d i s).pins = s.pins ∧ (endWalkStep d i s).cfg = s.cfg ∧
    (endWalkStep d i s).banks = s.banks ∧ (endWalkStep d i s).store = s.store ∧ (endWalkStep d i s).exp = s.exp ∧
    (endWalkStep d i s).comp = s.comp ∧ (endWalkStep d i s).fbq = s.fbq ∧ (endWalkStep d i s).lrx = s.lrx ∧
    (endWalkStep d i s).ltx = s.ltx ∧ (endWalkStep d i s).timer = s.timer ∧ (endWalkStep d i s).sweep = s.sweep ∧
    (endWalkStep d i s).stats = s.stats ∧ (endWalkStep d i s).host = s.host := by
  unfold endWalkStep; (repeat' split) <;> simp

@[simp] theorem writeWindow_frame (i : Fin 8) (w : Word) (s : State) :
    (writeWindow i w s).pending = s.pending ∧ (writeWindow i w s).pins = s.pins ∧ (writeWindow i w s).cfg = s.cfg ∧
    (writeWindow i w s).banks = s.banks ∧ (writeWindow i w s).store = s.store ∧ (writeWindow i w s).arb = s.arb ∧
    (writeWindow i w s).exp = s.exp ∧ (writeWindow i w s).comp = s.comp ∧ (writeWindow i w s).fbq = s.fbq ∧
    (writeWindow i w s).lrx = s.lrx ∧ (writeWindow i w s).ltx = s.ltx ∧ (writeWindow i w s).timer = s.timer ∧
    (writeWindow i w s).sweep = s.sweep ∧ (writeWindow i w s).stats = s.stats ∧ (writeWindow i w s).host = s.host := by
  unfold writeWindow; (repeat' split) <;> simp

@[simp] theorem readEntryWord_frame (s : State) :
    (readEntryWord s).pending = s.pending ∧ (readEntryWord s).pins = s.pins ∧ (readEntryWord s).cfg = s.cfg ∧
    (readEntryWord s).banks = s.banks ∧ (readEntryWord s).store = s.store ∧ (readEntryWord s).arb = s.arb ∧
    (readEntryWord s).exp = s.exp ∧ (readEntryWord s).comp = s.comp ∧ (readEntryWord s).fbq = s.fbq ∧
    (readEntryWord s).lrx = s.lrx ∧ (readEntryWord s).ltx = s.ltx ∧ (readEntryWord s).timer = s.timer ∧
    (readEntryWord s).sweep = s.sweep ∧ (readEntryWord s).stats = s.stats ∧ (readEntryWord s).cu = s.cu := by
  unfold readEntryWord; (repeat' split) <;> simp

@[simp] theorem discardEntry_frame (s : State) :
    (discardEntry s).pending = s.pending ∧ (discardEntry s).pins = s.pins ∧ (discardEntry s).cfg = s.cfg ∧
    (discardEntry s).banks = s.banks ∧ (discardEntry s).store = s.store ∧ (discardEntry s).arb = s.arb ∧
    (discardEntry s).exp = s.exp ∧ (discardEntry s).comp = s.comp ∧ (discardEntry s).fbq = s.fbq ∧
    (discardEntry s).lrx = s.lrx ∧ (discardEntry s).ltx = s.ltx ∧ (discardEntry s).timer = s.timer ∧
    (discardEntry s).sweep = s.sweep ∧ (discardEntry s).stats = s.stats ∧ (discardEntry s).cu = s.cu ∧
    (discardEntry s).stat = s.stat := by
  unfold discardEntry; (repeat' split) <;> simp

@[simp] theorem writeWord_frame (w : Word) (s : State) :
    (writeWord w s).pending = s.pending ∧ (writeWord w s).pins = s.pins ∧ (writeWord w s).cfg = s.cfg ∧
    (writeWord w s).banks = s.banks ∧ (writeWord w s).store = s.store ∧ (writeWord w s).arb = s.arb ∧
    (writeWord w s).exp = s.exp ∧ (writeWord w s).comp = s.comp ∧ (writeWord w s).fbq = s.fbq ∧
    (writeWord w s).lrx = s.lrx ∧ (writeWord w s).ltx = s.ltx ∧ (writeWord w s).timer = s.timer ∧
    (writeWord w s).sweep = s.sweep ∧ (writeWord w s).stats = s.stats ∧ (writeWord w s).cu = s.cu ∧
    (writeWord w s).stat = s.stat := by
  unfold writeWord; (repeat' split) <;> simp

@[simp] theorem commitMessage_frame (n : Nat) (s : State) :
    (commitMessage n s).pending = s.pending ∧ (commitMessage n s).pins = s.pins ∧ (commitMessage n s).cfg = s.cfg ∧
    (commitMessage n s).banks = s.banks ∧ (commitMessage n s).store = s.store ∧ (commitMessage n s).arb = s.arb ∧
    (commitMessage n s).exp = s.exp ∧ (commitMessage n s).comp = s.comp ∧ (commitMessage n s).fbq = s.fbq ∧
    (commitMessage n s).lrx = s.lrx ∧ (commitMessage n s).ltx = s.ltx ∧ (commitMessage n s).timer = s.timer ∧
    (commitMessage n s).sweep = s.sweep ∧ (commitMessage n s).stats = s.stats ∧ (commitMessage n s).cu = s.cu := by
  unfold commitMessage; dsimp only; (repeat' split) <;> simp

@[simp] theorem selectTable_frame (w : Word) (s : State) :
    (selectTable w s).pending = s.pending ∧ (selectTable w s).pins = s.pins ∧ (selectTable w s).cfg = s.cfg ∧
    (selectTable w s).store = s.store ∧ (selectTable w s).arb = s.arb ∧ (selectTable w s).exp = s.exp ∧
    (selectTable w s).comp = s.comp ∧ (selectTable w s).fbq = s.fbq ∧ (selectTable w s).lrx = s.lrx ∧
    (selectTable w s).ltx = s.ltx ∧ (selectTable w s).timer = s.timer ∧ (selectTable w s).sweep = s.sweep ∧
    (selectTable w s).stats = s.stats ∧ (selectTable w s).host = s.host ∧ (selectTable w s).cu = s.cu ∧
    (selectTable w s).stat = s.stat := by
  simp [selectTable]

@[simp] theorem writeTable_frame (w : Word) (s : State) :
    (writeTable w s).pending = s.pending ∧ (writeTable w s).pins = s.pins ∧ (writeTable w s).cfg = s.cfg ∧
    (writeTable w s).store = s.store ∧ (writeTable w s).arb = s.arb ∧ (writeTable w s).exp = s.exp ∧
    (writeTable w s).comp = s.comp ∧ (writeTable w s).fbq = s.fbq ∧ (writeTable w s).lrx = s.lrx ∧
    (writeTable w s).ltx = s.ltx ∧ (writeTable w s).timer = s.timer ∧ (writeTable w s).sweep = s.sweep ∧
    (writeTable w s).stats = s.stats ∧ (writeTable w s).host = s.host ∧ (writeTable w s).cu = s.cu := by
  unfold writeTable; (repeat' split) <;> simp

@[simp] theorem advancePointer_frame (s : State) :
    (advancePointer s).pending = s.pending ∧ (advancePointer s).pins = s.pins ∧ (advancePointer s).cfg = s.cfg ∧
    (advancePointer s).store = s.store ∧ (advancePointer s).arb = s.arb ∧ (advancePointer s).exp = s.exp ∧
    (advancePointer s).comp = s.comp ∧ (advancePointer s).fbq = s.fbq ∧ (advancePointer s).lrx = s.lrx ∧
    (advancePointer s).ltx = s.ltx ∧ (advancePointer s).timer = s.timer ∧ (advancePointer s).sweep = s.sweep ∧
    (advancePointer s).stats = s.stats ∧ (advancePointer s).host = s.host ∧ (advancePointer s).cu = s.cu ∧
    (advancePointer s).stat = s.stat := by
  simp [advancePointer]

@[simp] theorem emptyCapture_frame (s : State) :
    (emptyCapture s).pending = s.pending ∧ (emptyCapture s).pins = s.pins ∧ (emptyCapture s).cfg = s.cfg ∧
    (emptyCapture s).banks = s.banks ∧ (emptyCapture s).arb = s.arb ∧ (emptyCapture s).exp = s.exp ∧
    (emptyCapture s).comp = s.comp ∧ (emptyCapture s).fbq = s.fbq ∧ (emptyCapture s).lrx = s.lrx ∧
    (emptyCapture s).ltx = s.ltx ∧ (emptyCapture s).timer = s.timer ∧ (emptyCapture s).sweep = s.sweep ∧
    (emptyCapture s).stats = s.stats ∧ (emptyCapture s).host = s.host ∧ (emptyCapture s).cu = s.cu ∧
    (emptyCapture s).stat = s.stat := by
  simp [emptyCapture]

@[simp] theorem clearEvents_frame (w : Word) (s : State) :
    (clearEvents w s).pending = s.pending ∧ (clearEvents w s).pins = s.pins ∧ (clearEvents w s).cfg = s.cfg ∧
    (clearEvents w s).banks = s.banks ∧ (clearEvents w s).store = s.store ∧ (clearEvents w s).arb = s.arb ∧
    (clearEvents w s).exp = s.exp ∧ (clearEvents w s).comp = s.comp ∧ (clearEvents w s).fbq = s.fbq ∧
    (clearEvents w s).lrx = s.lrx ∧ (clearEvents w s).ltx = s.ltx ∧ (clearEvents w s).timer = s.timer ∧
    (clearEvents w s).sweep = s.sweep ∧ (clearEvents w s).stats = s.stats ∧ (clearEvents w s).host = s.host ∧
    (clearEvents w s).cu = s.cu := by
  simp [clearEvents]

@[simp] theorem clearLatches_frame (w : Word) (s : State) :
    (clearLatches w s).pending = s.pending ∧ (clearLatches w s).pins = s.pins ∧ (clearLatches w s).cfg = s.cfg ∧
    (clearLatches w s).banks = s.banks ∧ (clearLatches w s).store = s.store ∧ (clearLatches w s).arb = s.arb ∧
    (clearLatches w s).exp = s.exp ∧ (clearLatches w s).comp = s.comp ∧ (clearLatches w s).fbq = s.fbq ∧
    (clearLatches w s).lrx = s.lrx ∧ (clearLatches w s).ltx = s.ltx ∧ (clearLatches w s).timer = s.timer ∧
    (clearLatches w s).sweep = s.sweep ∧ (clearLatches w s).stats = s.stats ∧ (clearLatches w s).host = s.host ∧
    (clearLatches w s).cu = s.cu := by
  simp [clearLatches]

@[simp] theorem selectMonitor_frame (w : Word) (s : State) :
    (selectMonitor w s).pending = s.pending ∧ (selectMonitor w s).pins = s.pins ∧ (selectMonitor w s).cfg = s.cfg ∧
    (selectMonitor w s).banks = s.banks ∧ (selectMonitor w s).store = s.store ∧ (selectMonitor w s).arb = s.arb ∧
    (selectMonitor w s).exp = s.exp ∧ (selectMonitor w s).comp = s.comp ∧ (selectMonitor w s).fbq = s.fbq ∧
    (selectMonitor w s).lrx = s.lrx ∧ (selectMonitor w s).ltx = s.ltx ∧ (selectMonitor w s).timer = s.timer ∧
    (selectMonitor w s).sweep = s.sweep ∧ (selectMonitor w s).stats = s.stats ∧ (selectMonitor w s).host = s.host ∧
    (selectMonitor w s).cu = s.cu := by
  simp [selectMonitor]

@[simp] theorem writeEnables_frame (w : Word) (s : State) :
    (writeEnables w s).pending = s.pending ∧ (writeEnables w s).pins = s.pins ∧ (writeEnables w s).cfg = s.cfg ∧
    (writeEnables w s).banks = s.banks ∧ (writeEnables w s).store = s.store ∧ (writeEnables w s).arb = s.arb ∧
    (writeEnables w s).exp = s.exp ∧ (writeEnables w s).comp = s.comp ∧ (writeEnables w s).fbq = s.fbq ∧
    (writeEnables w s).lrx = s.lrx ∧ (writeEnables w s).ltx = s.ltx ∧ (writeEnables w s).timer = s.timer ∧
    (writeEnables w s).sweep = s.sweep ∧ (writeEnables w s).stats = s.stats ∧ (writeEnables w s).host = s.host ∧
    (writeEnables w s).cu = s.cu := by
  simp [writeEnables]

@[simp] theorem writeSettings_frame (a : Nat) (w : Word) (s : State) :
    (writeSettings a w s).pending = s.pending ∧ (writeSettings a w s).pins = s.pins ∧
    (writeSettings a w s).banks = s.banks ∧ (writeSettings a w s).store = s.store ∧
    (writeSettings a w s).arb = s.arb ∧ (writeSettings a w s).exp = s.exp ∧ (writeSettings a w s).comp = s.comp ∧
    (writeSettings a w s).fbq = s.fbq ∧ (writeSettings a w s).lrx = s.lrx ∧ (writeSettings a w s).timer = s.timer ∧
    (writeSettings a w s).sweep = s.sweep ∧ (writeSettings a w s).stats = s.stats ∧
    (writeSettings a w s).host = s.host ∧ (writeSettings a w s).cu = s.cu ∧ (writeSettings a w s).stat = s.stat := by
  unfold writeSettings; dsimp only; (repeat' split) <;> simp

@[simp] theorem writeControl_frame (w : Word) (s : State) :
    (writeControl w s).pending = s.pending ∧ (writeControl w s).pins = s.pins ∧ (writeControl w s).cfg = s.cfg ∧
    (writeControl w s).banks = s.banks ∧ (writeControl w s).store = s.store ∧ (writeControl w s).exp = s.exp ∧
    (writeControl w s).fbq = s.fbq ∧ (writeControl w s).timer = s.timer ∧ (writeControl w s).sweep = s.sweep ∧
    (writeControl w s).cu = s.cu := by
  unfold writeControl; dsimp only; (repeat' split) <;> simp

@[simp] theorem writeTimerControl_frame (w : Word) (s : State) :
    (writeTimerControl w s).pending = s.pending ∧ (writeTimerControl w s).pins = s.pins ∧
    (writeTimerControl w s).cfg = s.cfg ∧ (writeTimerControl w s).banks = s.banks ∧
    (writeTimerControl w s).exp = s.exp ∧ (writeTimerControl w s).comp = s.comp ∧
    (writeTimerControl w s).fbq = s.fbq ∧ (writeTimerControl w s).ltx = s.ltx ∧
    (writeTimerControl w s).host = s.host ∧ (writeTimerControl w s).cu = s.cu := by
  unfold writeTimerControl; dsimp only; (repeat' split) <;> simp

end Sys2Proof.Machine
end

