-- ==== Sys2Proof/Laws/Ops.lean ====
section
/-! SUPPORT. What each shared operation writes, once: counters, events, record writes, arbiter, offers, FIFOs. With the frames
of Laws/Frames.lean these say all an operation does. -/

namespace Sys2Proof.Machine

/-! ## Tables by context number -/

@[simp] theorem Table.look_put_self {α : Type} (t : Table α) (n : Ctx) (x : α) : (t.put n x).look n = x := by
  simp [Table.look, Table.put]

theorem Table.look_put_ne {α : Type} (t : Table α) {n k : Ctx} (x : α) (h : k ≠ n) : (t.put n x).look k = t.look k := by
  have h' : n.toNat ≠ k.toNat := fun e => h (BitVec.eq_of_toNat_eq e.symm)
  simp [Table.look, Table.put, Vector.getElem_set_ne, h']

theorem Table.look_put {α : Type} (t : Table α) (n k : Ctx) (x : α) :
    (t.put n x).look k = if k = n then x else t.look k := by
  by_cases h : k = n
  · subst h; simp
  · simp [h, Table.look_put_ne]

@[simp] theorem Table.put_put {α : Type} (t : Table α) (n : Ctx) (x y : α) : (t.put n x).put n y = t.put n y := by
  simp [Table.put]

/-! ## Counters and events -/

@[simp] theorem Stats.counted_nil (t : Stats) : t.counted [] = t := rfl
@[simp] theorem Stats.counted_counted (t : Stats) (a b : List Counter) : (t.counted a).counted b = t.counted (a ++ b) := by
  simp [Stats.counted]
@[simp] theorem StatusUnit.latched_nil (u : StatusUnit) : u.latched [] = u := rfl
@[simp] theorem StatusUnit.latched_latched (u : StatusUnit) (a b : List Event) :
    (u.latched a).latched b = u.latched (a ++ b) := by
  simp [StatusUnit.latched]

@[simp] theorem raise_stats (k : Counter) (s : State) : (raise k s).stats = s.stats.counted [k] := rfl
@[simp] theorem setEvent_stat (e : Event) (s : State) : (setEvent e s).stat = s.stat.latched [e] := rfl

theorem Stats.counted_boundary (l : List Counter) (t : Stats) :
    (t.counted l).boundary = t.boundary ∧ (t.counted l).snap = t.snap ∧
      (t.counted l).sel = t.sel ∧ (t.counted l).selSnap = t.selSnap := by
  induction l generalizing t with
  | nil => simp [Stats.counted]
  | cons k l ih => exact ih { t with live := t.live.set k.num (satInc t.live[k.num]) }

theorem StatusUnit.latched_eq (es : List Event) (u : StatusUnit) :
    u.latched es = { u with events := (u.latched es).events } := rfl

/-! ## Boundaries and alarms -/

@[simp] theorem boundaryNow_stats (s : State) : (boundaryNow s).stats =
    { s.stats with snap := s.stats.live, live := Vector.replicate 30 0 } := rfl
@[simp] theorem boundaryNow_store (s : State) : (boundaryNow s).store = { s.store with uncorr := 0 } := rfl
@[simp] theorem boundaryNow_stat (s : State) : (boundaryNow s).stat = s.stat.latched [.period] := rfl

@[simp] theorem setLof_stat (v : Bool) (s : State) : (setLof v s).stat = { s.stat with lof := s.stat.lof.to v } := rfl
@[simp] theorem setSilent_stat (v : Bool) (s : State) :
    (setSilent v s).stat = { s.stat with silent := s.stat.silent.to v } := rfl
@[simp] theorem setDegraded_stat (v : Bool) (s : State) :
    (setDegraded v s).stat = { s.stat with degraded := s.stat.degraded.to v } := rfl

theorem Alarm.to_true (a : Alarm) : a.to true = if a.live then a else ⟨true, true⟩ := by
  rcases a with ⟨_ | _, _⟩ <;> rfl
theorem Alarm.to_false (a : Alarm) : a.to false = if a.live then ⟨false, true⟩ else a := by
  rcases a with ⟨_ | _, _⟩ <;> rfl

/-! ## A period -/

/-- A period at the boundary counter: a boundary with the counter 0, or the counter alone. -/
theorem boundaryPeriod_stats (s : State) : (boundaryPeriod s).stats =
    if s.boundaryReached then { s.stats with snap := s.stats.live, live := Vector.replicate 30 0, boundary := 0 }
    else { s.stats with boundary := if s.cfg.statLimit = 0 then 0 else s.stats.boundary + 1 } := by
  unfold boundaryPeriod; split <;> simp
theorem boundaryPeriod_store (s : State) : (boundaryPeriod s).store =
    if s.boundaryReached then { s.store with uncorr := 0 } else s.store := by
  unfold boundaryPeriod; split <;> simp
theorem boundaryPeriod_stat (s : State) : (boundaryPeriod s).stat =
    if s.boundaryReached then s.stat.latched [.period] else s.stat := by
  unfold boundaryPeriod; split <;> simp

/-- A period at the silence counter: the counter of a receiver that is not DISABLED, and the alarm it sets. -/
theorem silencePeriod_lrx (s : State) : (silencePeriod s).lrx =
    if s.lrx.st = .disabled then s.lrx else { s.lrx with silence := satInc s.lrx.silence } := by
  unfold silencePeriod; dsimp only; (repeat' split) <;> simp
theorem silencePeriod_stat (s : State) : (silencePeriod s).stat =
    if s.silenceReached then { s.stat with silent := ⟨true, true⟩ } else s.stat := by
  unfold silencePeriod State.silenceReached
  rcases h : s.stat.silent with ⟨_ | _, v⟩ <;> dsimp only <;> (repeat' split) <;> simp_all [Alarm.to]

/-- Three ticks are the most that can be pending. -/
theorem Sweep.three_le_iff (p : BitVec 2) : 3#2 ≤ p ↔ p = 3#2 := by revert p; decide

/-- A period at the Age Sweep changes the statistics and the status unit only by an overrun. -/
theorem sweepPeriod_stats (s : State) : (sweepPeriod s).stats =
    s.stats.counted (if s.sweep.idx.isSome && decide (s.sweep.pend = 3) then [.sweepOverrun] else []) := by
  unfold sweepPeriod Stats.counted; (repeat' split) <;> simp_all [raise, Sweep.three_le_iff]
theorem sweepPeriod_stat (s : State) : (sweepPeriod s).stat =
    s.stat.latched (if s.sweep.idx.isSome && decide (s.sweep.pend = 3) then [.sweepOverrun] else []) := by
  unfold sweepPeriod StatusUnit.latched; (repeat' split) <;> simp_all [setEvent, Sweep.three_le_iff]

/-! ## Record writes, the index, references and the free map -/

theorem writeRx_store (n : Ctx) (st : RxState) (c : Contents) (s : State) :
    (writeRx n st c s).store = s.store.withRx n st c := by
  unfold writeRx monitorRx Store.withRx; split <;> rfl
theorem writeTx_store (n : Ctx) (st : TxState) (c : Contents) (s : State) :
    (writeTx n st c s).store = s.store.withTx n st c := by
  unfold writeTx monitorTx Store.withTx; split <;> rfl

theorem writeRx_stat (n : Ctx) (st : RxState) (c : Contents) (s : State) :
    (writeRx n st c s).stat = s.stat.seesRx n st c := by
  unfold writeRx monitorRx StatusUnit.seesRx State.rxRec viewOf; simp only [State.setStore_store, State.setStore_stat,
    Table.look_put_self]; split <;> rfl
theorem writeTx_stat (n : Ctx) (st : TxState) (c : Contents) (s : State) :
    (writeTx n st c s).stat = s.stat.seesTx n st c := by
  unfold writeTx monitorTx StatusUnit.seesTx State.txRec viewOf; simp only [State.setStore_store, State.setStore_stat,
    Table.look_put_self]; split <;> rfl

@[simp] theorem monitorRx_stat (n : Ctx) (s : State) :
    (monitorRx n s).stat = s.stat.seesRx n (s.rxRec n).st (s.rxRec n).c := by
  unfold monitorRx StatusUnit.seesRx viewOf; split <;> rfl
@[simp] theorem monitorTx_stat (n : Ctx) (s : State) :
    (monitorTx n s).stat = s.stat.seesTx n (s.txRec n).st (s.txRec n).c := by
  unfold monitorTx StatusUnit.seesTx viewOf; split <;> rfl

theorem Store.withRx_rx (n k : Ctx) (st : RxState) (c : Contents) (t : Store) :
    Table.look (t.withRx n st c).rx k = if k = n then ⟨st, c, []⟩ else Table.look t.rx k := Table.look_put ..
theorem Store.withTx_tx (n k : Ctx) (st : TxState) (c : Contents) (t : Store) :
    Table.look (t.withTx n st c).tx k = if k = n then ⟨st, c, []⟩ else Table.look t.tx k := Table.look_put ..

theorem rxRec_writeRx (n k : Ctx) (st : RxState) (c : Contents) (s : State) :
    (writeRx n st c s).rxRec k = if k = n then ⟨st, c, []⟩ else s.rxRec k := by
  simp only [State.rxRec, writeRx_store, Store.withRx_rx]
theorem txRec_writeTx (n k : Ctx) (st : TxState) (c : Contents) (s : State) :
    (writeTx n st c s).txRec k = if k = n then ⟨st, c, []⟩ else s.txRec k := by
  simp only [State.txRec, writeTx_store, Store.withTx_tx]

/-! ## Checked reads and the search -/

theorem readRx_clean {n : Ctx} {s : State} (q : Requester) (h : (s.rxRec n).flips = []) : readRx q n s = monitorRx n s := by
  simp [readRx, h]
theorem readTx_clean {n : Ctx} {s : State} (q : Requester) (h : (s.txRec n).flips = []) : readTx q n s = monitorTx n s := by
  simp [readTx, h]

@[simp] theorem monitorRx_rxRec (n k : Ctx) (s : State) : (monitorRx n s).rxRec k = s.rxRec k := by simp [State.rxRec]
@[simp] theorem monitorRx_txRec (n k : Ctx) (s : State) : (monitorRx n s).txRec k = s.txRec k := by simp [State.txRec]
@[simp] theorem monitorRx_slotAt (n : Ctx) (b : BitVec 6) (i : Fin 4) (s : State) :
    (monitorRx n s).slotAt b i = s.slotAt b i := by simp [State.slotAt]
@[simp] theorem monitorRx_refOf (n k : Ctx) (s : State) : (monitorRx n s).refOf k = s.refOf k := by simp [State.refOf]
@[simp] theorem monitorRx_isFree (n k : Ctx) (s : State) : (monitorRx n s).isFree k = s.isFree k := by simp [State.isFree]
@[simp] theorem monitorTx_rxRec (n k : Ctx) (s : State) : (monitorTx n s).rxRec k = s.rxRec k := by simp [State.rxRec]
@[simp] theorem monitorTx_txRec (n k : Ctx) (s : State) : (monitorTx n s).txRec k = s.txRec k := by simp [State.txRec]
@[simp] theorem monitorTx_slotAt (n : Ctx) (b : BitVec 6) (i : Fin 4) (s : State) :
    (monitorTx n s).slotAt b i = s.slotAt b i := by simp [State.slotAt]
@[simp] theorem monitorTx_refOf (n k : Ctx) (s : State) : (monitorTx n s).refOf k = s.refOf k := by simp [State.refOf]
@[simp] theorem monitorTx_isFree (n k : Ctx) (s : State) : (monitorTx n s).isFree k = s.isFree k := by simp [State.isFree]

/-- With no slot of the key's signature among `is` the search reads nothing and finds nothing. -/
theorem searchSlots_none {q : Requester} {k : Key} {s : State} (is : List (Fin 4))
    (h : ∀ i ∈ is, ∀ sl, s.slotAt k.bucket i = some sl → sl.sig ≠ k.signature) : searchSlots q k is s = (s, none) := by
  induction is with
  | nil => rfl
  | cons i is ih =>
    have ih := ih fun j hj => h j (List.mem_cons_of_mem _ hj)
    unfold searchSlots
    split
    · exact ih
    · rename_i sl hsl
      rw [if_neg (h i (List.mem_cons_self ..) sl hsl)]
      exact ih

theorem search_none {q : Requester} {k : Key} {s : State}
    (h : ∀ i sl, s.slotAt k.bucket i = some sl → sl.sig ≠ k.signature) : search q k s = (s, none) :=
  searchSlots_none _ fun i _ => h i

/-- The match of a search holds the key and has a slot, in the state after the search. -/
theorem searchSlots_match {q : Requester} {k : Key} (is : List (Fin 4)) {s s1 : State} {n : Ctx}
    (h : searchSlots q k is s = (s1, some n)) : (s1.txRec n).st.slotted = true ∧ (s1.txRec n).c.key = k := by
  induction is generalizing s with
  | nil => simp [searchSlots] at h
  | cons i is ih =>
    unfold searchSlots at h
    split at h
    · exact ih h
    · split at h
      · dsimp only at h
        split at h
        · rename_i hk
          cases h
          exact hk
        · exact ih h
      · exact ih h

/-- The first slot of the signature holds the key: the search reads its record alone. -/
theorem search_first {q : Requester} {k : Key} {s : State} {n : Ctx} {i : Fin 4}
    (hs : s.slotAt k.bucket i = some ⟨n, k.signature⟩)
    (hb : ∀ j sl, j < i → s.slotAt k.bucket j = some sl → sl.sig ≠ k.signature)
    (hf : (s.txRec n).flips = []) (hl : (s.txRec n).st.slotted = true) (hk : (s.txRec n).c.key = k) :
    search q k s = (monitorTx n s, some n) := by
  have hit : ∀ is, searchSlots q k (i :: is) s = (monitorTx n s, some n) := by
    intro is
    simp [searchSlots, hs, readTx_clean q hf, hl, hk]
  have skip : ∀ j is, j < i → searchSlots q k (j :: is) s = searchSlots q k is s := by
    intro j is hj
    rw [searchSlots]
    split
    · rfl
    · rename_i sl hsl
      rw [if_neg (hb j sl hj hsl)]
  unfold search
  fin_cases i
  · exact hit _
  · rw [skip 0 _ (by decide)]; exact hit _
  · rw [skip 0 _ (by decide), skip 1 _ (by decide)]; exact hit _
  · rw [skip 0 _ (by decide), skip 1 _ (by decide), skip 2 _ (by decide)]; exact hit _

/-! ## The lowest empty slot and the lowest free number -/

theorem emptySlot_eq {s : State} {b : BitVec 6} {i : Fin 4} (h : s.slotAt b i = none)
    (h' : ∀ j, j < i → s.slotAt b j ≠ none) : s.emptySlot b = some i := by
  have a : ∀ j, j < i → (s.slotAt b j).isNone = false := fun j hj => by
    rw [Bool.eq_false_iff, Ne, Option.isNone_iff_eq_none]; exact h' j hj
  have h : (s.slotAt b i).isNone = true := by rw [h]; rfl
  unfold State.emptySlot
  fin_cases i
  · simp only [List.find?]; rw [show (s.slotAt b 0).isNone = true from h]; rfl
  · simp only [List.find?]; rw [a 0 (by decide), show (s.slotAt b 1).isNone = true from h]; rfl
  · simp only [List.find?]; rw [a 0 (by decide), a 1 (by decide), show (s.slotAt b 2).isNone = true from h]; rfl
  · simp only [List.find?]
    rw [a 0 (by decide), a 1 (by decide), a 2 (by decide), show (s.slotAt b 3).isNone = true from h]; rfl

theorem emptySlot_none {s : State} {b : BitVec 6} (h : ∀ j, s.slotAt b j ≠ none) : s.emptySlot b = none := by
  unfold State.emptySlot
  simp
  exact ⟨h 0, h 1, h 2, h 3⟩

theorem lowestFree_eq {s : State} {n : Ctx} (h : s.isFree n = true) (h' : ∀ k, k < n → s.isFree k = false) :
    s.lowestFree = some n := by
  have : (List.range 256).find? (fun i => s.isFree (BitVec.ofNat 8 i)) = some n.toNat := by
    rw [List.find?_range_eq_some]
    refine ⟨by simpa using h, by simpa using n.isLt, ?_⟩
    intro j hj
    have hn := n.isLt
    have := h' (BitVec.ofNat 8 j) (by rw [BitVec.lt_def]; simp; omega)
    simp [this]
  simp [State.lowestFree, this]

theorem StatusUnit.seesTx_seesTx (n : Ctx) (st st' : TxState) (c c' : Contents) (u : StatusUnit) :
    (u.seesTx n st c).seesTx n st' c' = u.seesTx n st' c' := by
  unfold StatusUnit.seesTx; split <;> simp_all

theorem StatusUnit.seesRx_seesRx (n : Ctx) (st st' : RxState) (c c' : Contents) (u : StatusUnit) :
    (u.seesRx n st c).seesRx n st' c' = u.seesRx n st' c' := by
  unfold StatusUnit.seesRx; split <;> simp_all

/-! ## The arbiter -/

/-- What a grant records of the error capture (03 R60). -/
theorem Store.heldUncorrected_iff (t : Store) :
    t.heldUncorrected = true ↔ ∃ k, t.capture = some k ∧ k.uncorrected = true := by
  unfold Store.heldUncorrected; cases t.capture <;> simp
theorem request_arb (q : Requester) (s : State) : (request q s).arb = s.arb.asked s.store q := by
  unfold request arbitrate Arbiter.asked; split <;> simp_all
theorem endTransaction_arb (s : State) : (endTransaction s).arb = s.arb.ended s.store := by
  unfold endTransaction arbitrate Arbiter.ended; split <;> simp_all
theorem endAndRequest_arb (q : Requester) (s : State) :
    (endAndRequest q s).arb = (s.arb.setWait true q).ended s.store := by
  simp [endAndRequest, endTransaction_arb]

/-! ## The Feedback Queue -/

theorem offer_fbq (e : FbEntry) (s : State) : (offer e s).fbq = (offerTo s.fbq e).1 := by
  unfold offer; dsimp only; split <;> simp
theorem offer_stats (e : FbEntry) (s : State) : (offer e s).stats = s.stats.counted (overflowCount s.fbq e) := by
  unfold offer overflowCount; dsimp only; split <;> simp_all
theorem offer_stat (e : FbEntry) (s : State) : (offer e s).stat = s.stat.latched (overflowEvent s.fbq e) := by
  unfold offer overflowEvent; dsimp only; split <;> simp_all

/-! ## FIFOs and staging buffers -/

@[simp] theorem pushEntry_host (e : RxEntry) (s : State) : (pushEntry e s).host =
    { s.host with rx := s.host.rx ++ [{ e with lostBefore := s.host.lostMark }], lostMark := false } := rfl
@[simp] theorem markLost_host (s : State) : (markLost s).host = { s.host with lostMark := true } := rfl
@[simp] theorem markLost_stat (s : State) : (markLost s).stat = s.stat.latched [.rxLost] := rfl
@[simp] theorem clearBuild_host (s : State) : (clearBuild s).host = { s.host with build := [], overrun := false } := rfl
@[simp] theorem freeEntry_host (s : State) : (freeEntry s).host = { s.host with rx := s.host.rx.tail, readPos := 0 } := rfl
@[simp] theorem releaseBuf_lrx (b : Fin 2) (s : State) :
    (releaseBuf b s).lrx = { s.lrx with bufs := s.lrx.bufs.set b .empty } := rfl


end Sys2Proof.Machine
end

