-- ==== Sys2Proof/Laws/Store.lean ====
section
/-! SUPPORT. What the records, the key index, the references and the free map read after each store write, and the store of a
device reset. -/

namespace Sys2Proof.Machine

/-! ## Slots, references, the free map -/

theorem setSlot_slotAt (b d : BitVec 6) (i j : Fin 4) (x : Option Slot) (s : State) :
    (setSlot b i x s).slotAt d j = if d = b ∧ j = i then x else s.slotAt d j := by
  have hb := b.isLt
  have hd := d.isLt
  unfold setSlot State.slotAt
  simp only [State.setStore_store]
  by_cases h : d = b
  · subst h
    by_cases hi : j = i
    · subst hi; simp
    · have : i.val ≠ j.val := fun e => hi (Fin.ext e.symm)
      simp [hi, this]
  · have : b.toNat ≠ d.toNat := fun e => h (BitVec.eq_of_toNat_eq e.symm)
    simp [h, this]

theorem setRef_refOf (n k : Ctx) (x : Option SlotRef) (s : State) :
    (setRef n x s).refOf k = if k = n then x else s.refOf k := Table.look_put ..
theorem setFree_isFree (n k : Ctx) (x : Bool) (s : State) :
    (setFree n x s).isFree k = if k = n then x else s.isFree k := Table.look_put ..

section
variable (n k : Ctx) (b d : BitVec 6) (i j : Fin 4) (x : Option Slot) (r : Option SlotRef) (v : Bool) (st : TxState)
  (q : RxState) (c : Contents) (s : State)

@[simp] theorem setSlot_rxRec : (setSlot b i x s).rxRec k = s.rxRec k := rfl
@[simp] theorem setSlot_txRec : (setSlot b i x s).txRec k = s.txRec k := rfl
@[simp] theorem setSlot_refOf : (setSlot b i x s).refOf k = s.refOf k := rfl
@[simp] theorem setSlot_isFree : (setSlot b i x s).isFree k = s.isFree k := rfl
@[simp] theorem setRef_rxRec : (setRef n r s).rxRec k = s.rxRec k := rfl
@[simp] theorem setRef_txRec : (setRef n r s).txRec k = s.txRec k := rfl
@[simp] theorem setRef_slotAt : (setRef n r s).slotAt d j = s.slotAt d j := rfl
@[simp] theorem setRef_isFree : (setRef n r s).isFree k = s.isFree k := rfl
@[simp] theorem setFree_rxRec : (setFree n v s).rxRec k = s.rxRec k := rfl
@[simp] theorem setFree_txRec : (setFree n v s).txRec k = s.txRec k := rfl
@[simp] theorem setFree_slotAt : (setFree n v s).slotAt d j = s.slotAt d j := rfl
@[simp] theorem setFree_refOf : (setFree n v s).refOf k = s.refOf k := rfl
@[simp] theorem writeTx_rxRec : (writeTx n st c s).rxRec k = s.rxRec k := by simp [State.rxRec, writeTx_store, Store.withTx]
@[simp] theorem writeTx_slotAt : (writeTx n st c s).slotAt d j = s.slotAt d j := by
  simp [State.slotAt, writeTx_store, Store.withTx]
@[simp] theorem writeTx_refOf : (writeTx n st c s).refOf k = s.refOf k := by simp [State.refOf, writeTx_store, Store.withTx]
@[simp] theorem writeTx_isFree : (writeTx n st c s).isFree k = s.isFree k := by simp [State.isFree, writeTx_store, Store.withTx]
@[simp] theorem writeRx_txRec : (writeRx n q c s).txRec k = s.txRec k := by simp [State.txRec, writeRx_store, Store.withRx]
@[simp] theorem writeRx_slotAt : (writeRx n q c s).slotAt d j = s.slotAt d j := by
  simp [State.slotAt, writeRx_store, Store.withRx]
@[simp] theorem writeRx_refOf : (writeRx n q c s).refOf k = s.refOf k := by simp [State.refOf, writeRx_store, Store.withRx]
@[simp] theorem writeRx_isFree : (writeRx n q c s).isFree k = s.isFree k := by simp [State.isFree, writeRx_store, Store.withRx]
end

/-! ## Slots dropped and filled -/

@[simp] theorem dropSlot_txRec (n k : Ctx) (s : State) : (dropSlot n s).txRec k = s.txRec k := by
  unfold dropSlot; split <;> rfl
@[simp] theorem dropSlot_rxRec (n k : Ctx) (s : State) : (dropSlot n s).rxRec k = s.rxRec k := by
  unfold dropSlot; split <;> rfl
@[simp] theorem dropSlot_isFree (n k : Ctx) (s : State) : (dropSlot n s).isFree k = s.isFree k := by
  unfold dropSlot; split <;> rfl
theorem dropSlot_refOf (n k : Ctx) (s : State) : (dropSlot n s).refOf k = if k = n then none else s.refOf k := by
  unfold dropSlot
  split
  · rename_i h; split
    · rename_i e; rw [e]; exact h
    · rfl
  · rw [setRef_refOf]; rfl
theorem dropSlot_slotAt (n : Ctx) (d : BitVec 6) (j : Fin 4) (s : State) :
    (dropSlot n s).slotAt d j = if s.refOf n = some ⟨d, j⟩ then none else s.slotAt d j := by
  unfold dropSlot
  split
  · rename_i h; simp [h]
  · rename_i r h
    simp only [setRef_slotAt, setSlot_slotAt, h, Option.some.injEq]
    rcases r with ⟨rb, ri⟩
    simp only [SlotRef.mk.injEq]
    split <;> rename_i h1 <;> split <;> rename_i h2 <;> first | rfl | (exfalso; simp_all)

theorem fillSlot_refOf (n k : Ctx) (b : BitVec 6) (i : Fin 4) (g : Byte) (s : State) :
    (fillSlot n b i g s).refOf k = if k = n then some ⟨b, i⟩ else s.refOf k := by
  unfold fillSlot; rw [setFree_refOf, setRef_refOf, setSlot_refOf]
theorem fillSlot_isFree (n k : Ctx) (b : BitVec 6) (i : Fin 4) (g : Byte) (s : State) :
    (fillSlot n b i g s).isFree k = if k = n then false else s.isFree k := by
  unfold fillSlot; rw [setFree_isFree, setRef_isFree, setSlot_isFree]
theorem fillSlot_slotAt (n : Ctx) (b d : BitVec 6) (i j : Fin 4) (g : Byte) (s : State) :
    (fillSlot n b i g s).slotAt d j = if d = b ∧ j = i then some ⟨n, g⟩ else s.slotAt d j := by
  unfold fillSlot; rw [setFree_slotAt, setRef_slotAt, setSlot_slotAt]
@[simp] theorem fillSlot_txRec (n k : Ctx) (b : BitVec 6) (i : Fin 4) (g : Byte) (s : State) :
    (fillSlot n b i g s).txRec k = s.txRec k := rfl

/-! ## Transmit records made FREE -/

theorem freeTxRecord_txRec (n k : Ctx) (s : State) :
    (freeTxRecord n s).txRec k = if k = n then ⟨.free, .zero, []⟩ else s.txRec k := by
  unfold freeTxRecord; simp [txRec_writeTx]
theorem freeTxRecord_refOf (n k : Ctx) (s : State) : (freeTxRecord n s).refOf k = if k = n then none else s.refOf k := by
  unfold freeTxRecord; simp [dropSlot_refOf]
theorem freeTxRecord_isFree (n k : Ctx) (s : State) : (freeTxRecord n s).isFree k = if k = n then true else s.isFree k := by
  unfold freeTxRecord; simp [setFree_isFree]
theorem freeTxRecord_slotAt (n : Ctx) (d : BitVec 6) (j : Fin 4) (s : State) :
    (freeTxRecord n s).slotAt d j = if s.refOf n = some ⟨d, j⟩ then none else s.slotAt d j := by
  unfold freeTxRecord; simp [dropSlot_slotAt]

/-! ## Checked reads -/

/-- The reports of an error write no record, slot, reference or free flag. -/
theorem reportError_tables (k : Capture) (s : State) :
    (reportError k s).store.rx = s.store.rx ∧ (reportError k s).store.tx = s.store.tx ∧
      (reportError k s).store.index = s.store.index ∧ (reportError k s).store.refs = s.store.refs ∧
      (reportError k s).store.free = s.store.free := by
  unfold reportError; split
  · simp
  · split <;> simp

theorem noteCorrected_tables (d : Dir) (n : Ctx) (q : Requester) (s : State) :
    (noteCorrected d n q s).store.rx = s.store.rx ∧ (noteCorrected d n q s).store.tx = s.store.tx ∧
      (noteCorrected d n q s).store.index = s.store.index ∧ (noteCorrected d n q s).store.refs = s.store.refs ∧
      (noteCorrected d n q s).store.free = s.store.free := by
  have h := reportError_tables ⟨false, d, n, q⟩ (setEvent .eccCorrected (raise .eccCorr s))
  simpa [noteCorrected] using h

theorem noteUncorrected_tables (d : Dir) (n : Ctx) (q : Requester) (s : State) :
    (noteUncorrected d n q s).store.rx = s.store.rx ∧ (noteUncorrected d n q s).store.tx = s.store.tx ∧
      (noteUncorrected d n q s).store.index = s.store.index ∧ (noteUncorrected d n q s).store.refs = s.store.refs ∧
      (noteUncorrected d n q s).store.free = s.store.free := by
  unfold noteUncorrected
  dsimp only
  have h := fun t => reportError_tables ⟨true, d, n, q⟩ t
  refine ⟨?_, ?_, ?_, ?_, ?_⟩
  · rw [(h _).1]; split <;> (simp [degrade]; try split) <;> simp
  · rw [(h _).2.1]; split <;> (simp [degrade]; try split) <;> simp
  · rw [(h _).2.2.1]; split <;> (simp [degrade]; try split) <;> simp
  · rw [(h _).2.2.2.1]; split <;> (simp [degrade]; try split) <;> simp
  · rw [(h _).2.2.2.2]; split <;> (simp [degrade]; try split) <;> simp

/-- The receive record a checked read of `n` leaves. -/
def Record.readRxBack (r : Record RxState) : Record RxState :=
  if 2 ≤ r.flips.length then ⟨if r.st = .free then .free else .damaged, .zero, []⟩ else ⟨r.st, r.c, []⟩

/-- The transmit record a checked read of `n` leaves. -/
def Record.readTxBack (r : Record TxState) : Record TxState :=
  if 2 ≤ r.flips.length then ⟨if r.st.slotted then .damaged else r.st, .zero, []⟩ else ⟨r.st, r.c, []⟩

theorem readRx_rxRec (q : Requester) (n k : Ctx) (s : State) :
    (readRx q n s).rxRec k = if k = n then (s.rxRec n).readRxBack else s.rxRec k := by
  unfold readRx Record.readRxBack
  dsimp only
  split
  · rename_i h; simp [h]; rintro rfl; rw [← h]
  · rename_i h
    have := (noteCorrected_tables .receive n q (writeRx n (s.rxRec n).st (s.rxRec n).c s)).1
    rw [State.rxRec, this, ← State.rxRec, rxRec_writeRx]; simp [h]
  · rename_i h1 h2
    have : 2 ≤ (s.rxRec n).flips.length := by
      rcases hf : (s.rxRec n).flips with _ | ⟨a, _ | ⟨b, l⟩⟩
      · exact absurd hf h1
      · exact absurd hf (h2 a)
      · simp
    have ht := (noteUncorrected_tables .receive n q
      (writeRx n (if (s.rxRec n).st = .free then .free else .damaged) .zero s)).1
    rw [State.rxRec, ht, ← State.rxRec, rxRec_writeRx]; simp [this]

theorem readTx_txRec (q : Requester) (n k : Ctx) (s : State) :
    (readTx q n s).txRec k = if k = n then (s.txRec n).readTxBack else s.txRec k := by
  unfold readTx Record.readTxBack
  dsimp only
  split
  · rename_i h; simp [h]; rintro rfl; rw [← h]
  · rename_i h
    have := (noteCorrected_tables .transmit n q (writeTx n (s.txRec n).st (s.txRec n).c s)).2.1
    rw [State.txRec, this, ← State.txRec, txRec_writeTx]; simp [h]
  · rename_i h1 h2
    have : 2 ≤ (s.txRec n).flips.length := by
      rcases hf : (s.txRec n).flips with _ | ⟨a, _ | ⟨b, l⟩⟩
      · exact absurd hf h1
      · exact absurd hf (h2 a)
      · simp
    simp only [this, if_true]
    split
    · have ht := (noteUncorrected_tables .transmit n q (writeTx n .damaged .zero (dropSlot n s))).2.1
      rw [State.txRec, ht, ← State.txRec, txRec_writeTx, dropSlot_txRec]
    · have ht := (noteUncorrected_tables .transmit n q (writeTx n (s.txRec n).st .zero s)).2.1
      rw [State.txRec, ht, ← State.txRec, txRec_writeTx]

/-- The slot and the reference of `n` go with a record that a checked read finds damaged. -/
def State.dropsSlot (n : Ctx) (s : State) : Bool := (s.txRec n).st.slotted && decide (2 ≤ (s.txRec n).flips.length)

theorem readTx_index (q : Requester) (n : Ctx) (s : State) :
    (readTx q n s).store.index = (if s.dropsSlot n then (dropSlot n s).store.index else s.store.index) ∧
      (readTx q n s).store.refs = (if s.dropsSlot n then (dropSlot n s).store.refs else s.store.refs) ∧
      (readTx q n s).store.free = s.store.free := by
  unfold readTx State.dropsSlot
  dsimp only
  split
  · rename_i h; simp [h]
  · rename_i h
    have := noteCorrected_tables .transmit n q (writeTx n (s.txRec n).st (s.txRec n).c s)
    rw [this.2.2.1, this.2.2.2.1, this.2.2.2.2]; simp [h, writeTx_store, Store.withTx]
  · rename_i h1 h2
    have : 2 ≤ (s.txRec n).flips.length := by
      rcases hf : (s.txRec n).flips with _ | ⟨a, _ | ⟨b, l⟩⟩
      · exact absurd hf h1
      · exact absurd hf (h2 a)
      · simp
    simp only [this, decide_true, Bool.and_true]
    split
    · have ht := noteUncorrected_tables .transmit n q (writeTx n .damaged .zero (dropSlot n s))
      rw [ht.2.2.1, ht.2.2.2.1, ht.2.2.2.2]
      refine ⟨by simp [writeTx_store, Store.withTx], by simp [writeTx_store, Store.withTx], ?_⟩
      simp [writeTx_store, Store.withTx, dropSlot]; split <;> rfl
    · have ht := noteUncorrected_tables .transmit n q (writeTx n (s.txRec n).st .zero s)
      rw [ht.2.2.1, ht.2.2.2.1, ht.2.2.2.2]
      simp [writeTx_store, Store.withTx]

theorem readTx_refOf (q : Requester) (n k : Ctx) (s : State) :
    (readTx q n s).refOf k = if s.dropsSlot n = true ∧ k = n then none else s.refOf k := by
  rw [State.refOf, (readTx_index q n s).2.1]
  by_cases h : s.dropsSlot n
  · have := dropSlot_refOf n k s
    simp only [State.refOf] at this ⊢
    simp [h, this]
  · simp [h, State.refOf]
theorem readTx_slotAt (q : Requester) (n : Ctx) (d : BitVec 6) (j : Fin 4) (s : State) :
    (readTx q n s).slotAt d j =
      if s.dropsSlot n = true ∧ s.refOf n = some ⟨d, j⟩ then none else s.slotAt d j := by
  rw [State.slotAt]
  simp only [(readTx_index q n s).1]
  by_cases h : s.dropsSlot n
  · have := dropSlot_slotAt n d j s
    simp only [State.slotAt] at this ⊢
    simp [h, this]
  · simp [h, State.slotAt]
@[simp] theorem readTx_isFree (q : Requester) (n k : Ctx) (s : State) : (readTx q n s).isFree k = s.isFree k := by
  rw [State.isFree, (readTx_index q n s).2.2]; rfl

/-! ## Device reset -/

theorem reset_rxRec (n : Ctx) : State.reset.rxRec n = freeRx := by simp [State.rxRec, State.reset, Store.reset, Table.look]
theorem reset_txRec (n : Ctx) : State.reset.txRec n = freeTx := by simp [State.txRec, State.reset, Store.reset, Table.look]
theorem reset_refOf (n : Ctx) : State.reset.refOf n = none := by simp [State.refOf, State.reset, Store.reset, Table.look]
theorem reset_isFree (n : Ctx) : State.reset.isFree n = true := by simp [State.isFree, State.reset, Store.reset, Table.look]
theorem reset_slotAt (b : BitVec 6) (i : Fin 4) : State.reset.slotAt b i = none := by simp [State.slotAt, State.reset, Store.reset]

end Sys2Proof.Machine
end

