-- ==== Sys2Proof/Tests/Slice0.lean ====
section
/-! SUPPORT. The model's own tests: ill-formed commands, one step of each command on a small state (the manual's worked
examples where they fit one step), and a state that meets the hypotheses of each statement. -/

namespace Sys2Proof.Tests

set_option Elab.async false

open Sys2Proof.Machine

/-! ## Small states -/

/-- The block after the start-up walk. -/
def ready : State := State.reset.setStore { State.reset.store with st := .ready }

/-- A command's effect. -/
def after (c : Instr) (s : State) : State :=
  match exec c s with
  | .next t => t
  | .fault _ => s
  | .refused _ => s

/-- The requester holds the store. -/
def held (q : Requester) (s : State) : State := s.setArb { s.arb with granted := some q, last := q }

/-- The Expander's transaction is granted. -/
def working (w : ExpWork) (s : State) : State := (held .expander s).setExp (.busy 0 w)

/-- The Compressor's take is granted. -/
def taking (m : Message) (fate : TakeFate) (s : State) : State :=
  ((held .compressor s).setComp { s.comp with work := .taking m s.cfg.txFormat fate }).setLtx { s.ltx with st := .frame }

/-- The Command Unit's transaction is granted. -/
def commanded (st : CmdState) (s : State) : State := (held .command s).setCu { s.cu with st := st }

/-- The visit of index `i` is granted. -/
def visiting (i : BitVec 9) (s : State) : State := (held .sweep s).setSweep { s.sweep with idx := some i }

/-- A receive record put into the array. -/
def withRx (n : Ctx) (st : RxState) (c : Contents) (flips : List Nat) (s : State) : State :=
  s.setStore { s.store with rx := Table.put s.store.rx n ⟨st, c, flips⟩ }

/-- A transmit record with its slot `i`. -/
def withTx (n : Ctx) (i : Fin 4) (st : TxState) (c : Contents) (flips : List Nat) (s : State) : State :=
  let t := fillSlot n c.key.bucket i c.key.signature s
  t.setStore { t.store with tx := Table.put t.store.tx n ⟨st, c, flips⟩ }

/-- The key of 1.1.1. -/
def key1 : Key := ⟨0x0102, 0x0A0B, 0x21, 0x03, 0x40⟩

/-- Contents with that key. -/
def c1 : Contents := { Contents.zero with key := key1, seq := 16, time := 76800, stride := 300 }

/-- A header of that flow, and a message of it with an empty payload. -/
def head (q : Half) (t : Word) : Header := ⟨key1, q, t, 0⟩
def msg (q : Half) (t : Word) : Message := (head q t).bytes

/-- A staged frame in buffer 0. -/
def staged (data : List Byte) (s : State) : State :=
  s.setLrx { s.lrx with bufs := s.lrx.bufs.set 0 ⟨.staged, BitVec.ofNat 8 data.length, data⟩, order := [0] }

/-- A frame in flight. -/
def flying (k : FrameKind) (n : Option Ctx) (s : State) : State :=
  s.setLtx { s.ltx with enable := true, st := .frame, inFlight := some ⟨k, n⟩, rest := [0xAB#8] }

/-! ## Well-formedness, words, key -/

theorem test_illFormed_noBits : (Instr.storageError .receive 3 []).wellFormed = false := by decide
theorem test_illFormed_bitTwice : (Instr.storageError .transmit 3 [5, 5]).wellFormed = false := by decide
theorem test_illFormed_knownCode : (Instr.unknownCommand 18).wellFormed = false := by decide
theorem test_illFormed_ownRow : (Instr.configurationWrite 10 0).wellFormed = false := by decide
theorem test_wellFormed : (Instr.storageError .receive 3 [0, 7]).wellFormed = true ∧
    (Instr.unknownCommand 19).wellFormed = true ∧ (Instr.unknownCommand 0).wellFormed = true ∧
    (Instr.configurationWrite 37 0).wellFormed = true := by decide

theorem test_noWordSpellsACommand (n w : Nat) : decodeTableWord n w = none ∧ State.reset.withFetchWord n w = State.reset :=
  ⟨rfl, rfl⟩

/-- 1.1.1: bucket and signature. -/
theorem test_bucketAndSignature : key1.bucket = 0x20 ∧ key1.signature = 0x7C := by decide

/-- 2.3.1: the default code. -/
theorem test_defaultCode : defaultTable.encode 0 = some [false] ∧ defaultTable.encode 1 = some [true, false, false] ∧
    defaultTable.decode [true, false, true] = .ok (2, []) := by decide +kernel

/-! ## One step of each command -/

/-- A FEEDBACK frame of one entry, as it stands on the line with the reset configuration (7.10: 10 bytes). -/
def fbFrame : List Byte := lineFrame Settings.reset.txFormat (feedbackData [⟨.ack, 7⟩])

/-- RECEIVE_FRAME: the frame, byte for byte, is staged. -/
theorem test_receiveFrame :
    let t := after (.receiveFrame (0xFF#8 :: fbFrame)) (after (.receiveEnable true) ready)
    t.lrx.order = [0] ∧ t.lrx.bufs[0] = ⟨.staged, 4, [4, 1, 1, 7]⟩ ∧ t.count .rxGood = 1 := by decide +kernel

theorem test_receiveFrame_crc :
    let t := after (.receiveFrame (fbFrame.dropLast ++ [0])) (after (.receiveEnable true) ready)
    t.lrx.order = [] ∧ t.count .rxCrcErr = 1 ∧ t.lrx.st = .hunt [] := by decide +kernel

theorem test_expanderFrameTake :
    let t := after .expanderFrameTake (staged [4, 1, 1, 7] ready)
    t.exp = .busy 0 (.feedback ⟨.ack, 7⟩ []) ∧ t.arb.granted = some .expander ∧ t.count .fbReceived = 1 := by decide +kernel

theorem test_expanderFrameTake_malformed :
    let t := after .expanderFrameTake (staged [0x25] ready)
    t.exp = .idle ∧ t.count .rxMalformed = 1 ∧ t.lrx.bufs[0] = .empty := by decide +kernel

theorem test_expandFull :
    let t := after .expandFull (working (.full 3 (head 16 76800) 300 []) ready)
    t.exp = .deliver 0 { plainEntry .full 3 (head 16 76800) [] with isNew := true } ∧ (t.rxRec 3).st = .live ∧
      t.fbq = [⟨.ack, 3⟩] ∧ t.count .ctxCreatedRx = 1 := by decide +kernel

theorem test_expandFull_degraded :
    let s := working (.full 3 (head 16 76800) 300 []) ready
    let t := after .expandFull (s.setStore { s.store with st := .degraded })
    t.exp = .deliver 0 { plainEntry .full 3 (head 16 76800) [] with notStored := true } ∧ (t.rxRec 3).st = .free ∧
      t.fbq = [] := by decide +kernel

theorem test_expandDelta :
    let t := after .expandDelta
      (working (.delta 3 2 5 none (headerCheck (head 18 77405)) []) (withRx 3 .live c1 [] ready))
    t.exp = .deliver 0 (plainEntry .delta 3 (head 18 77405) []) ∧ (t.rxRec 3).c.seq = 18 := by decide +kernel

theorem test_expandBrief_repaired :
    let t := after .expandBrief (working (.brief 3 (headerCheck (head 18 77400)) []) (withRx 3 .suspect c1 [] ready))
    t.exp = .deliver 0 { plainEntry .brief 3 (head 18 77400) [] with repaired := 1 } ∧ (t.rxRec 3).st = .live ∧
      t.count .repaired = 1 := by decide +kernel

theorem test_expandBrief_checkFails :
    let t := after .expandBrief
      (working (.brief 3 (headerCheck (head 16 76800)) []) (withRx 3 .suspect { c1 with tally := 2 } [] ready))
    t.exp = .idle ∧ (t.rxRec 3).st = .lost ∧ t.fbq = [⟨.refresh, 3⟩] ∧ t.count .checkFail = 1 := by decide +kernel

theorem test_rxEntryWrite :
    let t := after .rxEntryWrite (ready.setExp (.deliver 0 (plainEntry .raw 0 (head 1 2) [9])))
    t.host.rx = [plainEntry .raw 0 (head 1 2) [9]] ∧ t.exp = .idle ∧ t.host.rxBytes = 20 := by decide +kernel

theorem test_expanderAbandonedGrant :
    let t := after .expanderAbandonedGrant ((held .expander ready).setExp .abandonedWaiting)
    t.exp = .idle ∧ t.arb.granted = none := by decide +kernel

theorem test_ackApply :
    let t := after .ackApply (working (.feedback ⟨.ack, 3⟩ []) (withTx 3 1 .opening c1 [] ready))
    (t.txRec 3).st = .opened ∧ t.exp = .idle := by decide +kernel

theorem test_refreshApply_stray :
    let t := after .refreshApply (working (.feedback ⟨.refresh, 3⟩ [⟨.ack, 4⟩]) ready)
    t.count .fbStray = 1 ∧ t.exp = .busy 0 (.feedback ⟨.ack, 4⟩ []) ∧ t.arb.granted = some .expander := by decide +kernel

theorem test_nextFrameChoice :
    let s := ready.setFbq [⟨.ack, 1⟩, ⟨.ack, 2⟩, ⟨.ack, 3⟩, ⟨.refresh, 4⟩, ⟨.ack, 5⟩]
    let t := after .nextFrameChoice (s.setLtx { s.ltx with st := .idle, gap := 1 })
    t.fbq = [⟨.ack, 5⟩] ∧ t.ltx.st = .frame ∧ t.ltx.rest.length = 16 := by decide +kernel

theorem test_take_opens :
    let t := after .take (taking (msg 16 76800) .send ready)
    t.ltx.inFlight = some ⟨.full, some 0⟩ ∧ (t.txRec 0).st = .opening ∧
      t.slotAt 0x20 0 = some ⟨0, 0x7C⟩ ∧ t.isFree 0 = false ∧ t.comp.work = .sending := by decide +kernel

theorem test_take_brief :
    let t := after .take (taking (msg 17 77100) .send (withTx 3 1 .opened c1 [] ready))
    t.ltx.inFlight = some ⟨.brief, some 3⟩ ∧ (t.txRec 3).c.seq = 17 ∧ (t.txRec 3).c.uses = 1 := by decide +kernel

theorem test_takeAbandonedGrant :
    let t := after .takeAbandonedGrant (taking (msg 16 76800) .discard ready)
    t.comp.work = .idle ∧ t.ltx.st = .disabled ∧ t.count .txAborted = 1 ∧ t.isFree 0 = true := by decide +kernel

theorem test_feedbackFrameSent :
    let t := after .feedbackFrameSent (flying .feedback none ready)
    t.pins.txd = [0xAB#8] ∧ t.ltx.st = .idle ∧ t.count .fbSent = 1 := by decide +kernel

theorem test_messageFrameSent :
    let s := flying .delta (some 3) ready
    let t := after .messageFrameSent (s.setComp { s.comp with work := .sending })
    t.ltx.st = .idle ∧ t.comp.work = .idle ∧ t.count .txDelta = 1 := by decide +kernel

theorem test_ctsNegated :
    let s := flying .delta (some 3) (ready.setCfg { ready.cfg with ctsCheck := true })
    let t := after .ctsNegated (s.setComp { s.comp with work := .sending })
    t.comp.work = .aborting 3 ∧ t.ltx.st = .frame ∧ t.count .txAborted = 1 ∧ t.arb.granted = some .compressor := by
  decide +kernel

theorem test_ctsAsserted : (after .ctsAsserted (ready.setLtx { ready.ltx with st := .held })).ltx.st = .idle := by
  decide +kernel

theorem test_abortRequest :
    let s := flying .delta (some 3) (held .compressor (withTx 3 1 .opened { c1 with tally := 5 } [] ready))
    let t := after .abortRequest (s.setComp { s.comp with work := .aborting 3 })
    (t.txRec 3).st = .refreshing ∧ (t.txRec 3).c.tally = 0 ∧ t.ltx.st = .idle := by decide +kernel

theorem test_timerOverflow :
    let s := (raise .txFull ready).setTimer ⟨0xFFFFFFFF, 0xFFFFFF00, true⟩
    let t := after .timerOverflow s
    t.timer.count = 0xFFFFFF00 ∧ t.sweep.idx = some 0 ∧ t.snapCount .txFull = 1 ∧ t.eventSet .period = true ∧
      t.arb.granted = some .sweep := by decide +kernel

/-- The tick that overflows, with the receiver hunting, T_silent at 1 and the sweep's ticks all pending. -/
def due : State :=
  let s := (visiting 7 ready).setTimer ⟨0xFFFFFFFF, 0, true⟩
  ((s.setSweep { s.sweep with pend := 3 }).setLrx { s.lrx with enable := true, st := .hunt [] }).setCfg
    { s.cfg with tSilent := 1 }

/-- LINE_SILENT is set at the period itself: a write of the alarms word after it clears the latch. -/
theorem test_lineSilent :
    let t := after .lineSilent due
    t.stat.silent = ⟨true, true⟩ ∧ t.lrx.silence = 1 ∧ (after (.alarmsWrite 0x200) t).stat.silent = ⟨true, false⟩ ∧
      after .lineSilent ready = ready := by decide +kernel

/-- The two orders of a boundary and a sweep overrun of one period. -/
theorem test_statisticsBoundary :
    let t := after .statisticsBoundary due
    let u := after .timerOverflow due
    t.snapCount .sweepOverrun = 0 ∧ t.count .sweepOverrun = 1 ∧ u.snapCount .sweepOverrun = 1 ∧ u.count .sweepOverrun = 0 ∧
      t.eventSet .period = true ∧ after .statisticsBoundary ready = ready := by decide +kernel

theorem test_sweepVisit_retires :
    let t := after .sweepVisit (visiting 259 (withTx 3 1 .opened { c1 with age := 31 } [] ready))
    (t.txRec 3).st = .free ∧ t.isFree 3 = true ∧ t.slotAt 0x20 1 = none ∧ t.sweep.idx = some 260 ∧ t.count .ctxAged = 1 := by
  decide +kernel

theorem test_sweepVisit_last :
    let t := after .sweepVisit (visiting 511 ready)
    t.sweep.idx = none ∧ t.arb.granted = none := by decide +kernel

theorem test_storageError :
    (((after (.storageError .receive 3 [7, 2]) ready).rxRec 3).flips = [2, 7]) ∧
      ((after (.storageError .receive 3 [7]) (withRx 3 .live c1 [2, 7] ready)).rxRec 3).flips = [2] := by decide +kernel

theorem test_startupWalkEnd :
    let t := after .startupWalkEnd (after (.receiveEnable true) State.reset)
    t.store.st = .ready ∧ t.lrx.st = .hunt [] ∧ t.ltx.st = .disabled := by decide +kernel

theorem test_readRx :
    let t := after .commandTransaction (after .readRx (withRx 0 .live c1 [] ready))
    t.cu.window[0] = 1 ∧ t.cu.window[1] = 0x01020A0B ∧ t.cu.window[6] = 0x7C20 ∧ t.cu.result = .ok ∧
      t.eventSet .commandDone = true := by decide +kernel

theorem test_readTx :
    (after .commandTransaction (after .readTx (withTx 0 2 .opened c1 [] ready))).cu.window[7] = 0x102 := by decide +kernel

theorem test_loadRx_badRecord : (after .loadRx (ready.setCu { ready.cu with window := ready.cu.window.set 0 2 })).cu.result =
    .badRecord := by decide +kernel

theorem test_loadTx_duplicate :
    let w := recordWords 9 2 c1 none
    let t := after .commandTransaction (after .loadTx
      ((withTx 3 1 .opened c1 [] ready).setCu { ready.cu with window := w, argument := 9 }))
    t.cu.result = .duplicateKey ∧ t.isFree 9 = true := by decide +kernel

theorem test_retireRx :
    let t := after .commandTransaction (after .retireRx ((withRx 0 .live c1 [] ready).setFbq [⟨.ack, 0⟩, ⟨.refresh, 1⟩]))
    t.fbq = [⟨.refresh, 1⟩] ∧ (t.rxRec 0).st = .free := by decide +kernel

theorem test_retireTx :
    let t := after .commandTransaction (after .retireTx (withTx 0 2 .damaged c1 [] ready))
    (t.txRec 0).st = .free ∧ t.isFree 0 = true ∧ t.refOf 0 = none := by decide +kernel

theorem test_pin : ((after .commandTransaction (after .pin (withRx 0 .lost c1 [] ready))).rxRec 0).c.pinned = true := by
  decide +kernel

theorem test_unpin_badArgument : (after .commandTransaction (after .unpin ready)).cu.result = .badArgument := by decide +kernel

theorem test_retireAllRx_walkStep :
    let t := after .walkStep (after .retireAllRx (withRx 0 .live c1 [] ready))
    (t.rxRec 0).st = .free ∧ t.cu.st = .walk .receive 1 ∧ t.arb.granted = some .command := by decide +kernel

theorem test_retireAllTx_walkStep_last :
    let t := after .walkStep (commanded (.walk .transmit 255) ready)
    t.cu.st = .idle ∧ t.cu.result = .ok ∧ t.arb.granted = none := by decide +kernel

theorem test_findTx :
    let w := recordWords 0 0 c1 none
    let t := after .commandTransaction (after .findTx
      ((withTx 3 1 .opened c1 [] ready).setCu { ready.cu with window := w }))
    t.cu.result = .ok ∧ t.cu.found = 3 := by decide +kernel

theorem test_banks :
    let t := after .openBank (ready.setCu { ready.cu with argument := 1 })
    t.banks.b.st = .loading ∧ (after .closeBank t).banks.b.st = .valid ∧
      (after .selectTxBank (after .closeBank t)).comp.pendingBank = some .b ∧ (after .openBank ready).cu.result = .bankInUse :=
  by decide +kernel

theorem test_clearDegraded :
    let s := ready.setStore { ready.store with st := .degraded }
    let t := after .clearDegraded (s.setStore { s.store with capture := some ⟨true, .receive, 0, .sweep⟩ })
    let u := after (.errorCaptureWrite 0) t
    (after .commandTransaction (after .clearDegraded s)).store.st = .ready ∧
      (after .commandTransaction t).cu.result = .capturePending ∧
      u.store.capture = none ∧ (after .commandTransaction u).cu.result = .capturePending ∧
      (after .commandTransaction u).store.st = .degraded := by
  decide +kernel

/-- A CLEAR_DEGRADED that waits for another transaction is tested when that transaction ends (03 R60). -/
theorem test_clearDegraded_waits :
    let s := held .sweep ready
    let t := after .clearDegraded (s.setStore { s.store with st := .degraded, capture := some ⟨true, .receive, 0, .sweep⟩ })
    let u := endTransaction (after (.errorCaptureWrite 0) t)
    t.arb.granted = some .sweep ∧ u.holds .command = true ∧ (after .commandTransaction u).store.st = .ready ∧
      (endTransaction t).arb.tested = true := by
  decide +kernel

theorem test_snapshot : (after .snapshot (raise .txRaw ready)).snapCount .txRaw = 1 := by decide +kernel

theorem test_linkReset :
    let t := after (.linkReset ()) (working (.full 3 (head 16 76800) 300 []) ready)
    t.exp = .abandonedRunning (.full 3 (head 16 76800) 300 []) ∧ t.arb.granted = some .expander ∧
      (after (.linkReset ()) (after (.linkReset ()) t)).exp = t.exp ∧
      (after (.linkReset ()) ((held .sweep ready).setExp (.busy 0 (.brief 3 0 [])))).exp = .abandonedWaiting := by
  decide +kernel

theorem test_resets :
    (after .deviceReset (withRx 0 .live c1 [] ready)).store.st = .starting ∧
      (after .resetRelease (after .resetAssert ready)).pins.resetPin = false ∧
      (after .discard (after .resetAssert (ready.setHost { ready.host with rx := [plainEntry .raw 0 (head 1 2) []] }))).host.rx
        ≠ [] := by decide +kernel

theorem test_unknownCommand :
    (after (.unknownCommand 19) ready).cu.result = .badArgument ∧ (after (.unknownCommand 19) State.reset).cu.result = .notReady := by
  decide +kernel

theorem test_recordWindowWrite :
    (after (.recordWindowWrite 7 5) ready).cu.window[7] = 5 ∧
      (after (.recordWindowWrite 7 5) (commanded (.walk .receive 3) ready)).cu.refusal = .busy := by decide +kernel

theorem test_enables :
    (after (.transmitEnable true) ready).ltx.st = .idle ∧ (after (.transmitEnable true) State.reset).ltx.st = .disabled ∧
      (after (.receiveEnable false) (after (.receiveEnable true) ready)).lrx.st = .disabled := by decide +kernel

theorem test_receiveData :
    let s := ready.setHost { ready.host with rx := [plainEntry .raw 0 (head 1 2) [9]] }
    (after .receiveData s).pins.dataOut = 0 ∧ (after .receiveData s).host.readPos = 1 ∧
      (after .receiveData (s.setHost { s.host with readPos := 4 })).host.rx = [] ∧
      (after .receiveData ready).eventSet .rxUnderrun = true := by decide +kernel

theorem test_discard_cancel :
    (after .discard (ready.setHost { ready.host with rx := [plainEntry .raw 0 (head 1 2) []], readPos := 2 })).host.readPos = 0 ∧
      (after .cancel (after (.transmitData 5) ready)).host.build = [] := by decide +kernel

theorem test_commit :
    let s := ready.setHost { ready.host with build := packWords (msg 16 76800) }
    (after (.commit 14) s).host.committed = [msg 16 76800] ∧ (after (.commit 13) s).host.reason = 1 ∧
      (after (.commit 18) s).host.reason = 2 ∧ (after (.commit 15) s).host.reason = 3 := by decide +kernel

theorem test_tables :
    let s := after (.tableSelect 0x12) (ready.setBanks { ready.banks with b := { ready.banks.b with st := .loading } })
    (after (.tableDataWrite 0x1C) s).banks.b.t = ⟨{ zeroTable with entries := zeroTable.entries.set 0 ⟨true, 12⟩ }, 1⟩ ∧
      (after (.tableDataWrite 0x1C) ready).eventSet .tableWriteIgnored = true ∧
      (after .tableDataRead (after .tableDataRead ready)).pins.dataOut = 0x10001 := by decide +kernel

theorem test_statusPorts :
    let s := ready.setStat { ready.stat with events := 0x1002, lof := ⟨true, true⟩, selRx := 4 }
    (after (.eventFlagsWrite 2) s).stat.events = 0x1000 ∧ (after (.alarmsWrite 0x100) s).stat.lof = ⟨true, false⟩ ∧
      (after (.monitorSelect 4) s).stat.viewRx.valid = true ∧ (after (.monitorSelect 5) s).stat.viewRx.valid = false ∧
      (after (.errorCaptureWrite 0) (ready.setStore { ready.store with lost := true })).store.lost = false := by decide +kernel

theorem test_timerPorts :
    let s := ready.setTimer ⟨7, 9, false⟩
    (after .timerTransfer s).timer.count = 9 ∧ (after .singleIncrement s).timer.count = 8 ∧
      (after .trefTick s).timer.count = 7 ∧ (after .trefTick (after (.timerRun true) s)).timer.count = 8 := by decide +kernel

theorem test_configurationWrite :
    (after (.configurationWrite 34 0) ready).cfg.rxLimit = 1 ∧ (after (.configurationWrite 34 0xFFFF) ready).cfg.rxLimit = 250 ∧
      (after (.configurationWrite 30 0x30007) ready).cfg.crc = .crc32 ∧ (after (.configurationWrite 30 7) ready).cfg.syncLen = 4 :=
  by decide +kernel

theorem test_idleFillByte :
    (after .idleFillByte ready).pins.txd = [0xFF#8] ∧
      (after .idleFillByte (ready.setLtx { ready.ltx with st := .held, gap := 15 })).ltx.gap = 15 := by decide +kernel

/-! ## States that meet the hypotheses of the statements -/

/-- A context of the flow key1 at number 3, slot 1 of its bucket. -/
def opened : State := withTx 3 1 .opened c1 [] ready

theorem test_meets_EmptyQueueIdles : ready.pending = [] := rfl

theorem test_opened_txRec (n : Ctx) : opened.txRec n = if n = 3 then ⟨.opened, c1, []⟩ else freeTx := by
  have : ready.txRec n = freeTx := reset_txRec n
  simp only [opened, withTx, State.txRec, State.setStore_store, Table.look_put]
  split
  · rfl
  · exact this
theorem test_opened_refOf (n : Ctx) : opened.refOf n = if n = 3 then some ⟨c1.key.bucket, 1⟩ else none := by
  have : opened.refOf n = (fillSlot 3 c1.key.bucket 1 c1.key.signature ready).refOf n := rfl
  rw [this, fillSlot_refOf]
  split
  · rfl
  · exact reset_refOf n
theorem test_opened_slotAt (b : BitVec 6) (i : Fin 4) :
    opened.slotAt b i = if b = c1.key.bucket ∧ i = 1 then some ⟨3, c1.key.signature⟩ else none := by
  have : opened.slotAt b i = (fillSlot 3 c1.key.bucket 1 c1.key.signature ready).slotAt b i := rfl
  rw [this, fillSlot_slotAt]
  split
  · rfl
  · exact reset_slotAt b i
theorem test_opened_isFree (n : Ctx) : opened.isFree n = if n = 3 then false else true := by
  have : opened.isFree n = (fillSlot 3 c1.key.bucket 1 c1.key.signature ready).isFree n := rfl
  rw [this, fillSlot_isFree]
  split
  · rfl
  · exact reset_isFree n

theorem test_meets_StepKeepsTransmitStoreSound :
    TransmitStoreSound (opened.setPending [.idleFillByte]) ∧
      step (opened.setPending [.idleFillByte]) = .next (after .idleFillByte opened) := by
  refine ⟨⟨⟨?_, ?_, ?_⟩, ?_, ?_⟩, rfl⟩
  · intro n h
    rw [show (opened.setPending [.idleFillByte]).txRec n = opened.txRec n from rfl, test_opened_txRec] at h ⊢
    by_cases e : n = 3
    · subst e; exact ⟨1, by decide +kernel⟩
    · rw [if_neg e] at h; cases h
  · intro n h
    rw [show (opened.setPending [.idleFillByte]).txRec n = opened.txRec n from rfl, test_opened_txRec] at h
    rw [show (opened.setPending [.idleFillByte]).refOf n = opened.refOf n from rfl, test_opened_refOf]
    by_cases e : n = 3
    · subst e; cases h
    · exact if_neg e
  · intro b i sl h
    rw [show (opened.setPending [.idleFillByte]).slotAt b i = opened.slotAt b i from rfl, test_opened_slotAt] at h
    split at h
    · rename_i e; cases h; obtain ⟨rfl, rfl⟩ := e; decide +kernel
    · cases h
  · intro n m h k _
    rw [show (opened.setPending [.idleFillByte]).txRec n = opened.txRec n from rfl, test_opened_txRec] at h
    rw [show (opened.setPending [.idleFillByte]).txRec m = opened.txRec m from rfl, test_opened_txRec] at k
    split at h
    · rename_i e; split at k
      · rename_i f; rw [e, f]
      · cases k
    · cases h
  · intro n
    rw [show (opened.setPending [.idleFillByte]).txRec n = opened.txRec n from rfl, test_opened_txRec]
    rw [show (opened.setPending [.idleFillByte]).isFree n = opened.isFree n from rfl, test_opened_isFree]
    split <;> simp [freeTx]

/-- Sixteen entries. -/
def sixteen : List FbEntry := (List.range 16).map fun i => ⟨if i = 3 then .ack else .refresh, BitVec.ofNat 8 i⟩

theorem test_meets_StepKeepsFeedbackQueueSound :
    QueueSound (ready.setFbq sixteen).fbq ∧ step (ready.setFbq sixteen) = .next (ready.setFbq sixteen) := by
  refine ⟨?_, rfl⟩
  unfold QueueSound; decide +kernel

theorem test_meets_StepKeepsBanksUsable :
    let s := (ready.setBanks { ready.banks with b := { ready.banks.b with st := .valid } }).setComp
      { ready.comp with pendingBank := some .b }
    BanksUsable s ∧ step s = .next s := by
  refine ⟨⟨rfl, ?_⟩, rfl⟩
  intro k h
  cases h
  rfl

theorem test_meets_StepKeepsFifoBounds :
    let e := plainEntry .raw 0 (head 1 2) [9]
    let s := (ready.setHost { ready.host with rx := [e], committed := List.replicate 32 (msg 1 2) }).setExp (.deliver 0 e)
    FifoBounds s ∧ step s = .next s := by
  exact ⟨⟨by decide +kernel, by decide +kernel, by decide +kernel⟩, rfl⟩

theorem test_meets_StepKeepsRecordsSound :
    let s := withRx 3 .suspect { c1 with tally := 6 } [] ready
    (ContentsSound s ∧ FailureCountsSound s) ∧ step s = .next s := by
  intro s
  have h : ∀ n, s.rxRec n = if n = 3 then ⟨.suspect, { c1 with tally := 6 }, []⟩ else freeRx := by
    intro n
    have : ready.rxRec n = freeRx := reset_rxRec n
    simp only [s, withRx, State.rxRec, State.setStore_store, Table.look_put]
    split
    · rfl
    · exact this
  refine ⟨⟨⟨?_, ?_⟩, ?_⟩, rfl⟩
  · intro n; rw [h]; split
    · intro k; cases k
    · intro _; rfl
  · intro n _
    rw [show s.txRec n = freeTx from reset_txRec n]; rfl
  · intro n; rw [h]; split <;> simp [freeRx, Contents.zero]

theorem test_meets_StepKeepsRequestsMatched :
    let s := working (.brief 3 0 []) ready
    RequestsMatched s ∧ step s = .next s := by
  intro s
  have waiting : ∀ q, ¬ (s.arb.waits q = true ∧ s.holds q = true) := fun q => by cases q <;> decide +kernel
  refine ⟨⟨rfl, rfl, rfl, rfl, waiting, ?_, ?_, fun _ => rfl, ?_⟩, rfl⟩
  · intro _ h; cases h
  · intro h; cases h
  · intro f h; cases h

theorem test_meets_DegradedStoreCreatesNothing :
    let d := ready.setStore { ready.store with st := .degraded }
    let s := working (.full 3 (head 16 76800) 300 []) d
    let u := commanded (.busy .pin 3 .receive) d
    s.store.st = .degraded ∧ u.store.st = .degraded ∧ Instr.expandFull ≠ .commandTransaction ∧
      (¬ ∃ k d, u.cu.st = .busy .loadRx k d ∨ u.cu.st = .busy .loadTx k d) ∧
      exec .commandTransaction u = .next (after .commandTransaction u) ∧ (s.rxRec 3).st = .free ∧ (u.txRec 3).st = .free := by
  refine ⟨rfl, rfl, by decide, ?_, rfl, by decide +kernel, by decide +kernel⟩
  rintro ⟨k, d, h | h⟩ <;> cases h

theorem test_meets_CodeRoundTrip :
    defaultTable.top = 8542 ∧ (∃ bits, defaultTable.encode 8542 = some bits) ∧ defaultTable.encode 8543 = none := by
  refine ⟨by decide +kernel, ⟨_, rfl⟩, by decide +kernel⟩

theorem test_meets_BuiltFramesValidate :
    WellFormedMessage (msg 16 76800) ∧ WellFormedMessage ({ head 16 76800 with len := 224 }.bytes ++ List.replicate 224 7) ∧
      (Banks.reset.get .a).st = .valid ∧
      encodeAll [((Banks.reset.get .a).c.table, (255#8).toNat)] ≠ none ∧
      encodeAll ([((Banks.reset.get .a).c.table, (3#8).toNat), ((Banks.reset.get .a).s.table, 1),
        ((Banks.reset.get .a).t.table, zigzag 0)] ++
        ((some 300#16).map fun v => ((Banks.reset.get .a).s.table, v.toNat)).toList) ≠ none ∧
      [FbEntry.mk .ack 1, ⟨.refresh, 2⟩, ⟨.ack, 3⟩].length ≤ 3 := by
  unfold WellFormedMessage; decide +kernel

/-- A body with a BRIEF and one with a DELTA coded area of the default code, and after each area what follows it. -/
theorem test_meets_BuiltFramesValidate_coded :
    let k := Banks.reset.get .a
    let x : CodedValues := ⟨255, 32767, 0, 65535⟩
    let y : CodedValues := ⟨3, 1, 10, 300⟩
    let brief := (encodeAll (x.fields k false false)).getD []
    let delta := (encodeAll (y.fields k true true)).getD []
    CodesArea k false false (packBits brief) x brief ∧ CodesArea k true true (packBits delta ++ [0x80]) y delta ∧
      validate Banks.reset (3 :: packBits brief) = .malformed ∧
      validate Banks.reset (0x12 :: packBits delta ++ [0x80]) = .malformed ∧
      validate Banks.reset (0x12 :: packBits delta ++ [0x7F]) = .work (.delta 3 1 5 (some 300) 0x7F []) ∧
      validate Banks.reset (3 :: packBits brief ++ 0 :: List.replicate 225 0) = .malformed ∧
      (Banks.reset.get .b).st ≠ .valid := by
  unfold CodesArea CodedValues.inRange; decide +kernel

theorem test_meets_BuiltFramesValidate_none (x : CodedValues) (area : List Bool) :
    ¬ CodesArea (Banks.reset.get .a) false false [] x area := by
  rintro ⟨⟨h, _⟩, e, p⟩
  cases List.prefix_nil.mp p
  have : ∀ n : Fin 256, encodeAll [(defaultTable, n.val)] ≠ some [] := by decide +kernel
  exact this ⟨x.n, by omega⟩ e

theorem test_meets_ContextsStayInStep :
    let b := withRx 3 .live { c1 with tally := 0 } [] ready
    WellFormedMessage (msg 17 77100) ∧ (opened.txRec 3).st.slotted = true ∧
      (opened.txRec 3).c.key = (Header.ofBytes (msg 17 77100)).key ∧ (b.rxRec 3).st = .live ∧ (b.rxRec 3).flips = [] ∧
      InStep (opened.txRec 3).c (b.rxRec 3).c ∧ (opened.banks.get opened.comp.working).st = .valid ∧
      b.banks.get opened.comp.working = opened.banks.get opened.comp.working := by
  unfold WellFormedMessage InStep; decide +kernel

theorem test_meets_SentFrameIsStaged :
    let s := after (.receiveEnable true) ready
    let f := s.cfg.txFormat
    s.lrx.st = .hunt [] ∧ s.lrx.claim = some 0 ∧ 1 ≤ s.cfg.syncLen.toNat ∧ s.cfg.syncLen.toNat ≤ 4 ∧
      f.sync = s.cfg.sync ∧ f.addrWide = s.cfg.addrWide ∧ f.crc = s.cfg.crc ∧ s.cfg.rxFormat.accepts f.peer = true ∧
      (List.replicate 250 (0#8)).length ≤ s.cfg.rxLimit.toNat := by decide +kernel

/-- After a sync match. -/
def addressed : State := ready.setLrx { ready.lrx with enable := true, st := .address ready.cfg.rxFormat [] }

theorem test_meets_RefusedFramesAreCounted :
    let full := addressed.setLrx { addressed.lrx with bufs := #v[⟨.staged, 1, [0]⟩, ⟨.staged, 1, [0]⟩] }
    addressed.lrx.st = .address addressed.cfg.rxFormat [] ∧ addressed.cfg.rxFormat.accepts 0 = true ∧
      addressed.lrx.claim = some 0 ∧ [4#8, 0, 0].length = (1#8).toNat + addressed.cfg.crc.count ∧
      [4#8, 0, 0].drop 1 ≠ lineCrc addressed.cfg.crc (addrBytes addressed.cfg.addrWide 0 ++ [1] ++ [4#8, 0, 0].take 1) ∧
      250 < (251#8).toNat ∧ addressed.cfg.rxFormat.accepts 7 = false ∧
      full.lrx.st = .address full.cfg.rxFormat [] ∧ full.lrx.claim = none ∧ full.cfg.rxFormat.accepts 0 = true ∧
      ((after (.receiveFrame [7, 251]) full).lrx.st, (after (.receiveFrame [7, 251]) full).count .addrReject) = (.hunt [], 1) ∧
      ((after (.receiveFrame [0, 251]) full).lrx.badRun, (after (.receiveFrame [0, 251]) full).count .rxOverrun) = (1, 0) := by
  decide +kernel

theorem test_meets_StagedFrameIsTaken :
    let s := staged [0x25] ready
    s.exp = .idle ∧ s.lrx.order = [0] ∧ validate s.banks [0x25] = .malformed ∧ validate s.banks [0x0B, 0, 0] = .codeError ∧
      validate s.banks (0#8 :: msg 1 2) = .raw (head 1 2) [] ∧ s.host.rxBytes + 4 * ((18 + 0 + 3) / 4) ≤ 4096 ∧
      validate s.banks [4, 1, 1, 7] = .work (.feedback ⟨.ack, 7⟩ []) ∧
      validate s.banks (1#8 :: 3#8 :: (msg 1 2 ++ [0, 0])) = .work (.full 3 (head 1 2) 0 []) ∧
      ¬ (s.setHost { s.host with rx := List.replicate 204 (plainEntry .raw 0 (head 1 2) []) }).host.rxBytes +
        4 * ((18 + 0 + 3) / 4) ≤ 4096 := by decide +kernel

theorem test_meets_FullFrameDecision :
    let s := working (.full 3 (head 16 76800) 300 []) ready
    let d := s.setStore { s.store with st := .degraded }
    s.holds .expander = true ∧ s.exp = .busy 0 (.full 3 (head 16 76800) 300 []) ∧
      ((readRx .expander 3 s).rxRec 3).st = .free ∧ (readRx .expander 3 s).store.st ≠ .degraded ∧
      ((readRx .expander 3 d).rxRec 3).st = .free ∧ (readRx .expander 3 d).store.st = .degraded ∧
      ((readRx .expander 3 (withRx 3 .live c1 [1, 2] s)).rxRec 3).st = .damaged ∧ s.cfg.ackEnable = true ∧
      (s.setCfg { s.cfg with ackEnable := false }).cfg.ackEnable = false := by decide +kernel

theorem test_meets_CompressedFrameAccepted :
    let s := withRx 3 .live c1 [] ready
    let d := working (.delta 3 2 5 none (headerCheck (head 18 77405)) []) s
    let b := working (.brief 3 (headerCheck (head 18 77400)) []) s
    d.holds .expander = true ∧ ((readRx .expander 3 d).rxRec 3).st = .live ∧
      headerCheck ⟨key1, 16 + 2, 76800 + BitVec.ofNat 32 (2 * 300) + BitVec.ofInt 32 5, 0⟩ = headerCheck (head 18 77405) ∧
      2 ≤ b.cfg.repairDepth.toNat + 1 ∧ headerCheck (briefHeader c1 2 []) = headerCheck (head 18 77400) ∧
      headerCheck (briefHeader c1 1 []) ≠ headerCheck (head 18 77400) := by decide +kernel

theorem test_meets_CompressedFrameRefused :
    let s := withRx 3 .live c1 [] ready
    let k := headerCheck (head 16 76800)
    (working (.delta 3 2 5 none k []) s).holds .expander = true ∧ headerCheck (deltaHeader c1 2 5 none []) ≠ k ∧
      headerCheck (briefHeader c1 1 []) ≠ k ∧ headerCheck (briefHeader c1 2 []) ≠ k ∧
      ((readRx .expander 3 (working (.brief 3 k []) s)).rxRec 3).st = .live ∧
      c1.tally.toNat + 1 < s.cfg.failLimit.toNat ∧ s.cfg.failLimit.toNat ≤ ({ c1 with tally := 2 } : Contents).tally.toNat + 1 ∧
      ((readRx .expander 4 (working (.brief 4 k []) s)).rxRec 4).st = .free ∧
      (let u := withRx 3 .lost c1 [] ready
       ((readRx .expander 3 (working (.brief 3 (headerCheck (briefHeader c1 1 [])) []) u)).rxRec 3).st = .lost) := by
  decide +kernel

theorem test_meets_EntryWriteAndAbandonedWork :
    (ready.setExp (.deliver 0 (plainEntry .raw 0 (head 1 2) []))).exp = .deliver 0 (plainEntry .raw 0 (head 1 2) []) ∧
      ((held .expander ready).setExp (.abandonedRunning (.brief 3 0 []))).holds .expander = true ∧
      ((held .expander ready).setExp (.abandonedRunning (.feedback ⟨.ack, 3⟩ [⟨.ack, 4⟩]))).holds .expander = true ∧
      ((held .expander ready).setExp .abandonedWaiting).holds .expander = true ∧
      (taking (msg 1 2) .discard ready).holds .compressor = true ∧
      (taking (msg 1 2) .discard ready).comp.work = .taking (msg 1 2) ready.cfg.txFormat .discard := by decide +kernel

theorem test_meets_FeedbackEntriesApplied :
    (working (.feedback ⟨.ack, 3⟩ []) opened).holds .expander = true ∧
      ((readTx .expander 3 (working (.feedback ⟨.ack, 3⟩ []) (withTx 3 1 .opening c1 [] ready))).txRec 3).st = .opening ∧
      ((readTx .expander 3 (working (.feedback ⟨.refresh, 3⟩ []) opened)).txRec 3).st = .opened ∧
      ((readTx .expander 3 (working (.feedback ⟨.refresh, 3⟩ []) (withTx 3 1 .refreshing c1 [] ready))).txRec 3).st
        = .refreshing ∧
      ((readTx .expander 4 (working (.feedback ⟨.refresh, 4⟩ []) opened)).txRec 4).st = .free := by decide +kernel

theorem test_meets_CoalescingRules :
    sixteen = sixteen.take 3 ++ ⟨.ack, 3⟩ :: sixteen.drop 4 ∧ (∀ x ∈ sixteen.take 3 ++ sixteen.drop 4, x.n ≠ 3) ∧
      sixteen = sixteen.take 4 ++ ⟨.refresh, 4⟩ :: sixteen.drop 5 ∧ ∀ x ∈ sixteen.take 4 ++ sixteen.drop 5, x.n ≠ 4 := by
  decide +kernel

theorem test_meets_OverflowRules :
    (∀ x ∈ sixteen, x.n ≠ 99) ∧ sixteen.length = 16 ∧ (sixteen.take 15).length < 16 ∧
      sixteen = sixteen.take 3 ++ ⟨.ack, 3⟩ :: sixteen.drop 4 ∧ (∀ x ∈ sixteen.take 3, x.kind = .refresh) ∧
      (sixteen.map fun x => (⟨.refresh, x.n⟩ : FbEntry)).length = 16 := by decide +kernel

/-- The transmitter in IDLE after its gap. -/
def idling (s : State) : State := s.setLtx { s.ltx with enable := true, st := .idle, gap := 1 }

theorem test_meets_FrameStarts :
    let s := (idling ready).setFbq sixteen
    let u := (idling ready).setHost { ready.host with committed := [msg 1 2] }
    s.ltx.st = .idle ∧ s.cfg.gap ≤ s.ltx.gap ∧ s.cfg.ctsCheck = false ∧ s.fbq ≠ [] ∧ s.host.committed = [] ∧
      u.ltx.st = .idle ∧ u.host.committed = [msg 1 2] ∧ u.fbq = [] := by decide +kernel

theorem test_meets_FrameStartWaits :
    let s := (idling ready).setFbq sixteen
    let u := (s.setCfg { s.cfg with ctsCheck := true }).setPins { s.pins with cts := false }
    ready.ltx.st ≠ .idle ∧ (s.setLtx { s.ltx with gap := 0 }).ltx.gap < s.cfg.gap ∧ (idling ready).fbq = [] ∧
      (idling ready).host.committed = [] ∧ u.ltx.st = .idle ∧ u.cfg.gap ≤ u.ltx.gap ∧ u.fbq ≠ [] ∧ u.cfg.ctsCheck = true ∧
      u.pins.cts = false := by decide +kernel

theorem test_meets_TakeOpensContext :
    let s := taking (msg 16 76800) .send ready
    let k := (Header.ofBytes (msg 16 76800)).key
    s.holds .compressor = true ∧ s.comp.work = .taking (msg 16 76800) ready.cfg.txFormat .send ∧
      (search .compressor k s).2 = none ∧ (search .compressor k s).1.store.st = .ready ∧
      OpensAt (search .compressor k s).1 k.bucket 0 0 := by
  unfold OpensAt
  refine ⟨by decide +kernel, rfl, by decide +kernel, by decide +kernel, by decide +kernel, ?_, by decide +kernel⟩
  intro k h
  exact absurd h (by simp)

theorem test_meets_TakeSendsFromContext :
    let s := taking (msg 17 77100) .send opened
    let h := Header.ofBytes (msg 17 77100)
    let k := s.banks.get s.comp.working
    s.holds .compressor = true ∧ s.comp.work = .taking (msg 17 77100) ready.cfg.txFormat .send ∧
      (search .compressor h.key s).2 = some 3 ∧ ((search .compressor h.key s).1.txRec 3).st = .opened ∧
      (search .compressor h.key (taking (msg 17 77100) .send (withTx 3 1 .opening c1 [] ready))).2 = some 3 ∧
      chooseKind k 3 c1 h = .brief [true, true, false, false, false] ∧
      chooseKind k 3 c1 (Header.ofBytes (msg 900 77100)) = .full ∧
      (∃ v bits, chooseKind k 3 c1 (Header.ofBytes (msg 17 77200)) = .delta (some v) bits) ∧
      ∃ bits, chooseKind k 3 c1 (Header.ofBytes (msg 18 77400)) = .delta none bits := by
  refine ⟨by decide +kernel, rfl, by decide +kernel, by decide +kernel, by decide +kernel, by decide +kernel, ?_⟩
  exact ⟨by decide +kernel, ⟨_, _, rfl⟩, ⟨_, rfl⟩⟩

/-- A slot with the key's signature and no match: another key, and a record that reads uncorrectable. -/
theorem test_meets_TakeSendsFromContext_noMatch :
    let k := key1
    let other := withTx 3 1 .opened { c1 with key := ⟨0x0102, 0x0A0B, 0x20, 0x04, 0x40⟩ } [] ready
    let broken := withTx 3 1 .opened c1 [0, 1] ready
    (⟨0x0102, 0x0A0B, 0x20, 0x04, 0x40⟩ : Key).signature = k.signature ∧
      ((readTx .compressor 3 other).txRec 3).c.key ≠ k ∧ ((readTx .compressor 3 broken).txRec 3).st.slotted = false ∧
      broken.slotAt k.bucket 1 = some ⟨3, k.signature⟩ ∧ broken.slotAt k.bucket 0 = none ∧
      (search .compressor k broken).2 = none := by decide +kernel

/-- A full bucket of key1 with other signatures; `p` pins its contexts. -/
def crowded (p : Bool) : State :=
  let c := fun (a : Byte) => { c1 with key := ⟨0, 0, 0, 0, 0x20⟩, pinned := p, age := a }
  ready |> withTx 0 0 .opened (c 1) [] |> withTx 1 1 .opened (c 4) [] |> withTx 2 2 .opened (c 4) [] |> withTx 3 3 .opened (c 2) []

/-- What a take of a message of key1 finds on a state after its search and after its candidate reads. -/
def searched (s : State) : State × Option Ctx := search .compressor key1 (taking (msg 16 76800) .send s)
def candidates (s : State) : State := readCandidates key1 [0, 1, 2, 3] (searched s).1

theorem test_meets_TakeEvictsOrGoesRaw :
    let s := crowded false
    let degraded := s.setStore { s.store with st := .degraded }
    let broken := s.setStore { s.store with tx := Table.put s.store.tx 2 { s.txRec 2 with flips := [0, 1] } }
    let limited := broken.setCfg { broken.cfg with degThreshold := 1 }
    let full := ready.setStore { ready.store with free := Vector.replicate 256 false }
    (taking (msg 16 76800) .send s).holds .compressor = true ∧ (Header.ofBytes (msg 16 76800)).key = key1 ∧
      (searched s).2 = none ∧ (searched degraded).2 = none ∧ (searched degraded).1.store.st = .degraded ∧
      (∀ j, (searched s).1.slotAt 0x20 j ≠ none) ∧ (searched full).2 = none ∧
      (∀ n : Fin 256, (searched full).1.isFree (BitVec.ofFin n) = false) ∧
      (∀ j, (candidates full).slotAt 0x20 j = none) ∧
      (candidates limited).store.st = .degraded ∧ (candidates broken).store.st = .ready ∧
      (candidates broken).slotAt 0x20 2 = none ∧ (∀ j, j < 2 → (candidates broken).slotAt 0x20 j ≠ none) ∧
      (candidates broken).isFree 4 = true ∧ (∀ k : Fin 4, (candidates broken).isFree (BitVec.ofNat 8 k.val) = false) ∧
      (∀ j, (candidates (crowded true)).slotAt 0x20 j = some ⟨BitVec.ofNat 8 j.val, 0x20⟩) ∧
      ∀ j : Fin 4, ((candidates (crowded true)).txRec (BitVec.ofNat 8 j.val)).c.pinned = true := by decide +kernel

/-- The victim of the crowded bucket: of the two oldest, the one in the lower slot. -/
theorem test_meets_TakeEvictsOrGoesRaw_victim : IsVictim (candidates (crowded false)) 0x20 1 1 := by
  have slots : ∀ j, (candidates (crowded false)).slotAt 0x20 j = some ⟨BitVec.ofNat 8 j.val, 0x20⟩ := by decide +kernel
  refine ⟨⟨_, slots 1, rfl⟩, by decide +kernel, fun j sl h _ => ?_⟩
  rw [slots j] at h
  cases h
  revert j
  decide +kernel

/-- A frame in flight with CTS checking set. -/
def checked (k : FrameKind) (n : Option Ctx) : State :=
  ((flying k n ready).setComp { ready.comp with work := .sending }).setCfg { ready.cfg with ctsCheck := true }

/-- CTS is negated, without the step. -/
def ctsLow (s : State) : State := s.setPins { s.pins with cts := false }

theorem test_meets_FrameSentIsCounted :
    let s := flying .feedback none ready
    let u := (flying .raw none ready).setComp { ready.comp with work := .sending }
    let f := ctsLow ((checked .feedback none).setComp ready.comp)
    f.cfg.ctsCheck = true ∧ f.pins.cts = false ∧ f.ltx.inFlight = some ⟨.feedback, none⟩ ∧ f.comp.work = .idle ∧
      (after .feedbackFrameSent f).count .txAborted = 1 ∧ (after .feedbackFrameSent f).count .fbSent = 0 ∧
      (after .messageFrameSent (ctsLow (checked .raw none))).ltx.gap = 1 ∧
    s.ltx.st = .frame ∧ s.cfg.ctsCheck = false ∧ s.ltx.inFlight = some ⟨.feedback, none⟩ ∧ u.ltx.st = .frame ∧
      u.ltx.inFlight = some ⟨.raw, none⟩ ∧ u.comp.work = .sending := by decide +kernel

theorem test_meets_CtsChanges_and_LineEnables :
    let t := (taking (msg 1 2) .send ready).setCfg { ready.cfg with ctsCheck := true }
    (taking (msg 1 2) .discard ready).comp.work = .taking (msg 1 2) ready.cfg.txFormat .discard ∧
    ready.cfg.ctsCheck = false ∧ (checked .delta (some 3)).cfg.ctsCheck = true ∧ (checked .delta (some 3)).ltx.st = .frame ∧
      (checked .delta (some 3)).ltx.inFlight = some ⟨.delta, some 3⟩ ∧ (checked .raw none).ltx.inFlight = some ⟨.raw, none⟩ ∧
      (checked .raw none).comp.work = .sending ∧ t.cfg.ctsCheck = true ∧ t.ltx.st = .frame ∧
      t.comp.work = .taking (msg 1 2) ready.cfg.txFormat .send ∧ ready.pins.resetPin = false ∧ ready.ltx.st ≠ .frame ∧
      ((checked .raw none).setComp { ready.comp with work := .aborting 3 }).comp.work = .aborting 3 ∧
      (checked .raw none).pins.resetPin = false := by decide +kernel

theorem test_meets_AbandonedFrameIsAnswered :
    let s := taking (msg 16 76800) .abandon ready
    let d := s.setStore { s.store with st := .degraded }
    let u := (held .compressor opened).setComp { ready.comp with work := .aborting 3 }
    s.holds .compressor = true ∧ s.comp.work = .taking (msg 16 76800) ready.cfg.txFormat .abandon ∧
      (takeMessage (msg 16 76800) s).2.n = some 0 ∧ (takeMessage (msg 16 76800) d).2.n = none ∧
      u.holds .compressor = true ∧ u.comp.work = .aborting 3 ∧ ((readTx .compressor 3 u).txRec 3).st = .opened := by
  decide +kernel

theorem test_meets_ByteSlots :
    ready.cfg.ctsCheck = false ∧ ready.ltx.st = .disabled ∧ (idling ready).ltx.st = .idle ∧
      (taking (msg 1 2) .send ready).ltx.st = .frame ∧ (taking (msg 1 2) .send ready).ltx.rest = [] ∧
      ((checked .raw none).setLtx { (checked .raw none).ltx with rest := [1, 2] }).ltx.rest = [1#8, 2#8] ∧
      (checked .raw none).ltx.rest = [0xAB#8] ∧ (checked .raw none).pins.cts = true := by decide +kernel

theorem test_meets_ByteSlots_blocked :
    let d := ctsLow (checked .delta (some 3))
    let t := ctsLow ((taking (msg 1 2) .send ready).setCfg { ready.cfg with ctsCheck := true })
    d.cfg.ctsCheck = true ∧ d.pins.cts = false ∧ d.ltx.st = .frame ∧ d.ltx.inFlight = some ⟨.delta, some 3⟩ ∧
      d.comp.work = .sending ∧ (after .idleFillByte d).comp.work = .aborting 3 ∧ t.cfg.ctsCheck = true ∧ t.pins.cts = false ∧
      t.ltx.st = .frame ∧ t.ltx.rest = [] ∧ t.comp.work = .taking (msg 1 2) ready.cfg.txFormat .send := by decide +kernel

theorem test_meets_TimerCounts_and_PeriodReachesItsBlocks :
    let r := ready.setTimer ⟨0xFFFFFFFE, 0, true⟩
    let f := ready.setTimer ⟨0xFFFFFFFF, 0, true⟩
    r.timer.run = true ∧ r.timer.count ≠ 0xFFFFFFFF#32 ∧ ready.timer.run = false ∧ ready.timer.count ≠ 0xFFFFFFFF#32 ∧
      ready.pins.resetPin = false ∧ f.timer.count = 0xFFFFFFFF#32 ∧ f.timer.run = true ∧ f.sweep.idx = none ∧
      (visiting 511 f).sweep.idx = some 511 ∧ (ready.setTimer ⟨0xFFFFFFFF, 0, false⟩).timer.run = false := by decide +kernel

theorem test_meets_SilenceAndBoundaries :
    due.timer.run = true ∧ due.timer.count = 0xFFFFFFFF#32 ∧ due.lrx.st ≠ .disabled ∧ due.cfg.tSilent ≠ 0 ∧
      due.stat.silent.live = false ∧ due.cfg.tSilent ≤ satInc due.lrx.silence ∧ due.cfg.statLimit ≠ 0 ∧
      due.cfg.statLimit.toNat ≤ due.stats.boundary.toNat + 1 ∧ ready.timer.run = false ∧
      (due.setCfg { due.cfg with statLimit := 2 }).cfg.statLimit.toNat = due.stats.boundary.toNat + 2 ∧
      (due.setCfg { due.cfg with tSilent := 2 }).cfg.tSilent = satInc due.lrx.silence + 1 ∧
      ready.pins.resetPin = false ∧ ready.cu.st = .idle ∧ ready.store.st ≠ .starting := by decide +kernel

theorem test_meets_SweepVisits :
    let at' := fun (i : BitVec 9) (s : State) => (visiting i s).holds .sweep && decide ((visiting i s).sweep.idx = some i)
    let r := fun (st : RxState) (a : Byte) => (readRx .sweep 0 (visiting 0 (withRx 0 st { c1 with age := a } [] ready))).rxRec 0
    let x := fun (a : Byte) => (readTx .sweep 255 (visiting 511 (withTx 255 1 .opened { c1 with age := a } [] ready))).txRec 255
    at' 0 ready = true ∧ at' 511 ready = true ∧ (0#9).toNat = (0#8).toNat ∧ (511#9).toNat = (255#8).toNat + 256 ∧
      (r .free 0).st = .free ∧ (r .live 31).st = .live ∧ (r .lost 30).st = .lost ∧ (x 31).st = .opened ∧
      ready.cfg.rxIdle ≤ satInc (r .live 31).c.age ∧ ¬ ready.cfg.rxIdle ≤ satInc (r .lost 30).c.age ∧
      ready.cfg.txIdle ≤ satInc (x 31).c.age ∧ ¬ ready.cfg.txIdle ≤ satInc (x 30).c.age ∧
      ((readTx .sweep 255 (visiting 511 ready)).txRec 255).st.slotted = false := by decide +kernel

theorem test_meets_CheckedReads :
    ready.rxRec 3 = ⟨.free, .zero, []⟩ ∧ [0, 7].Nodup ∧ (withRx 3 .live c1 [5] ready).rxRec 3 = ⟨.live, c1, [5]⟩ ∧
      (withRx 3 .live c1 [5, 6] ready).rxRec 3 = ⟨.live, c1, [5, 6]⟩ ∧ 2 ≤ [5, 6].length ∧
      opened.txRec 3 = ⟨.opened, c1, []⟩ ∧ (withTx 3 1 .opened c1 [5] ready).txRec 3 = ⟨.opened, c1, [5]⟩ ∧
      (withTx 3 1 .opened c1 [5, 6] ready).txRec 3 = ⟨.opened, c1, [5, 6]⟩ ∧ TxState.opened.slotted = true ∧
      TxState.damaged.slotted = false ∧ (withTx 3 1 .opened c1 [5, 6] ready).refOf 3 = some ⟨0x20, 1⟩ := by decide +kernel

/-- The second uncorrectable error degrades the store, with its alarm; the record loses its slot. -/
theorem test_readTx_degrades :
    let s := withTx 3 1 .opened c1 [5, 6] ready
    let t := readTx .sweep 3 (s.setStore { s.store with capture := some ⟨true, .receive, 9, .command⟩ })
    t.store.st = .degraded ∧ t.stat.degraded = ⟨true, true⟩ ∧ t.store.lost = true ∧ t.store.uncorr = 1 ∧
      t.refOf 3 = none ∧ t.slotAt 0x20 1 = none ∧ t.isFree 3 = false := by decide +kernel

theorem test_meets_ArbiterGrantsInRingOrder :
    let a : Arbiter := ⟨true, false, false, true, none, .expander, false⟩
    a.granted = none ∧ a.waits .sweep = true ∧ (held .sweep ready).arb.granted ≠ none ∧ Arbiter.reset.granted = none ∧
      (Requester.sweep.code - a.last.code - 1) ≤ (Requester.expander.code - a.last.code - 1) ∧
      State.reset.store.st = .starting ∧ ready.store.st ≠ .starting := by decide +kernel

/-- The window of a READ of `c1` in state code 2, with count 1. -/
def window2 : Vector Word 8 := recordWords 0 2 { c1 with tally := 1 } none

theorem test_meets_commands :
    TakesCommands ready ∧ ready.cu.argN = 0 ∧ (windowRx window2).isSome = true ∧ (windowTx window2).isSome = true ∧
      windowRx (window2.set 0 2) = none ∧ windowTx (window2.set 0 0) = none ∧ windowRx (window2.set 0 0) = some (.free, .zero) := by
  unfold TakesCommands HostOpen; decide +kernel

theorem test_meets_StoreQuiet : StoreQuiet ready :=
  ⟨by decide +kernel, fun q => by cases q <;> decide +kernel⟩

theorem test_meets_commandTransactions :
    let c := fun (k : StoreCmd) (d : Dir) (s : State) => commanded (.busy k 3 d) s
    let f := after .clearDegraded (ready.setStore { ready.store with capture := some ⟨true, .receive, 0, .sweep⟩ })
    (c .readRx .receive ready).holds .command = true ∧ (c .readTx .receive opened).cu.st = .busy .readTx 3 .receive ∧
      opened.refOf 3 = some ⟨0x20, 1⟩ ∧ (windowTx window2).map Prod.fst = some .opened ∧
      ((c .loadTx .receive opened).txRec 3).st.slotted = true ∧ ((c .loadTx .receive ready).txRec 3).st.slotted = false ∧
      (search .command key1 (c .loadTx .receive ready)).2 = none ∧ (search .command key1 (c .findTx .receive opened)).2 = some 3 ∧
      (search .command key1 (c .loadTx .receive ready)).1.slotAt 0x20 0 = none ∧
      (∀ j, (search .command { key1 with origin := 0x0201 } (crowded false)).1.slotAt 0x20 j ≠ none) ∧
      (search .command { key1 with origin := 0x0201 } (crowded false)).2 = none ∧
      ((readRx .command 3 (c .pin .receive (withRx 3 .live c1 [] ready))).rxRec 3).st = .live ∧
      ((readTx .command 4 (c .pin .transmit opened)).txRec 4).st = .free ∧
      (c .clearDegraded .receive ready).arb.tested = false ∧ ready.store.capture = none ∧
      f.holds .command = true ∧ f.cu.st = .busy .clearDegraded 0 .receive ∧ f.arb.tested = true ∧
      (commanded (.walk .transmit 255) ready).cu.st = .walk .transmit 255 := by
  decide +kernel

theorem test_meets_bankCommands :
    let b := ready.setCu { ready.cu with argument := 1 }
    let l := b.setBanks { b.banks with b := { b.banks.b with st := .loading } }
    TakesCommands b ∧ b.cu.argN = 1 ∧ ready.comp.working = .a ∧ b.comp.working ≠ .b ∧ b.comp.pendingBank ≠ some .b ∧
      (ready.banks.get .a).st = .valid ∧ (b.banks.get .b).st = .invalid ∧ (l.banks.get .b).st = .loading ∧
      1 < (ready.setCu { ready.cu with argument := 2 }).cu.argN.toNat := by
  unfold TakesCommands HostOpen; decide +kernel

theorem test_meets_CommandsRefused :
    HostOpen ready ∧ (commanded (.walk .receive 0) ready).cu.st ≠ .idle ∧ State.reset.cu.st = .idle ∧
      State.reset.store.st = .starting ∧ 18 < (19#32).toNat ∧ HostOpen State.reset := by
  unfold HostOpen; decide +kernel

theorem test_meets_LinkResetActs :
    let t := taking (msg 1 2) .send ready
    TakesCommands (working (.brief 3 0 []) ready) ∧ ready.ltx.st ≠ .frame ∧ ready.comp.work = .idle ∧
      TakesCommands ((held .expander ready).setExp (.abandonedRunning (.brief 3 0 []))) ∧
      TakesCommands ((checked .raw none).setComp { ready.comp with work := .aborting 3 }) ∧
      TakesCommands (checked .delta (some 3)) ∧ (checked .delta (some 3)).ltx.inFlight = some ⟨.delta, some 3⟩ ∧
      TakesCommands (checked .raw none) ∧ TakesCommands t ∧ t.ltx.st = .frame ∧
      t.comp.work = .taking (msg 1 2) ready.cfg.txFormat .send := by
  unfold TakesCommands HostOpen; decide +kernel

theorem test_meets_DeviceResetAndResetInput : HostOpen ready ∧ (after .resetAssert ready).pins.resetPin = true := by
  unfold HostOpen; decide +kernel

theorem test_meets_ReceiveFifoPorts :
    let e := plainEntry .raw 0 (head 1 2) [9]
    HostOpen ready ∧ ready.host.rx = [] ∧ (packWords (e.header.bytes ++ e.payload))[3]? = some 0x02000900 ∧
      4 * (3 + 1) < e.size ∧ e.size ≤ 4 * (4 + 1) := by
  unfold HostOpen; decide +kernel

theorem test_meets_TransmitFifoPorts :
    let b := packWords (msg 16 76800)
    let e := ready.setHost { ready.host with overrun := true }
    HostOpen e ∧ e.host.build = [] ∧ e.host.overrun = true ∧
    HostOpen ready ∧ ready.host.build.length < 60 ∧ ready.host.txBytes + 4 ≤ 4096 ∧ 60 ≤ (List.replicate 60 (0#32)).length ∧
      (13#8).toNat < 14 ∧ 238 < (239#8).toNat ∧ b.length = ((14#8).toNat + 3) / 4 ∧
      (b.flatMap bytes32)[13]? = some 0 ∧ ((packWords (msg 16 76800 ++ [1])).flatMap bytes32)[13]? = some 0 ∧
      32 ≤ (List.replicate 32 (msg 1 2)).length := by
  unfold HostOpen; decide +kernel

theorem test_meets_TablePorts :
    (ready.banks.get ready.banks.selBank).st ≠ .loading ∧
      (let s := ready.setBanks { ready.banks with selBank := .b, b := { ready.banks.b with st := .loading } }
       (s.banks.get s.banks.selBank).st = .loading) ∧ (0x8000#32).getLsbD 15 = true ∧ (0x1C#32).getLsbD 15 = false := by
  decide +kernel

theorem test_meets_StatusPorts_and_ErrorCaptureWriteEmpties :
    HostOpen ready ∧ ready.store.capture = none ∧ ready.stats.sel.toNat = (0 : Fin 30).val ∧ 29 < (30#5).toNat ∧
      (29#5).toNat = (29 : Fin 30).val ∧
      (ready.setStore { ready.store with capture := some ⟨true, .transmit, 9, .sweep⟩ }).readWord 24 = 0x937 := by
  unfold HostOpen; decide +kernel

theorem test_meets_ConfigurationWrites :
    HostOpen ready ∧ 28 ≤ (28#6).toNat ∧ (37#6).toNat ≤ 37 ∧ (43#6).toNat ∈ [0, 2, 6, 7, 12, 23, 39, 40, 42, 43] ∧
      44 ≤ (44#6).toNat ∧ (13#6).toNat = 13 + (0 : Fin 8).val ∧ (20#6).toNat = 13 + (7 : Fin 8).val ∧
      ready.readWord 34 = 0x000024FA := by
  unfold HostOpen; decide +kernel

end Sys2Proof.Tests
end

/-! PROOFS. The zigzag form of a residual, and the host's writes and reads of table data. First the rules they rest on: fields
of a host word, frames of a step, host accesses, the selected table. -/

namespace Sys2Proof.Machine

/-! ## The zigzag form (02 R23) -/

theorem zigzag_of_nonneg {r : Int} (h : 0 ≤ r) : (zigzag r : Int) = 2 * r := by
  rw [zigzag, if_pos h]; omega

theorem zigzag_of_neg {r : Int} (h : r < 0) : (zigzag r : Int) = -2 * r - 1 := by
  rw [zigzag, if_neg (by omega)]; omega

theorem unzigzag_of_even {z : Nat} (h : z % 2 = 0) : unzigzag z = (z : Int) / 2 := by
  rw [unzigzag, if_pos h]; omega

theorem unzigzag_of_odd {z : Nat} (h : z % 2 = 1) : unzigzag z = -(((z : Int) + 1) / 2) := by
  rw [unzigzag, if_neg (by omega)]; omega

/-- The residuals of 0 or more have the even forms, the negative ones the odd forms. -/
theorem unzigzag_zigzag (r : Int) : unzigzag (zigzag r) = r := by
  rcases lt_or_ge r 0 with hr | hr
  · have hz := zigzag_of_neg hr
    rw [unzigzag_of_odd (by omega)]; omega
  · have hz := zigzag_of_nonneg hr
    rw [unzigzag_of_even (by omega)]; omega

theorem zigzag_unzigzag (z : Nat) : zigzag (unzigzag z) = z := by
  rcases Nat.mod_two_eq_zero_or_one z with hz | hz
  · have hr := unzigzag_of_even hz
    have hzz := zigzag_of_nonneg (r := unzigzag z) (by omega)
    omega
  · have hr := unzigzag_of_odd hz
    have hzz := zigzag_of_neg (r := unzigzag z) (by omega)
    omega

theorem zigzag_le {r : Int} (hlo : -32768 ≤ r) (hhi : r ≤ 32767) : zigzag r ≤ 65535 := by
  rcases lt_or_ge r 0 with hr | hr
  · have hz := zigzag_of_neg hr
    omega
  · have hz := zigzag_of_nonneg hr
    omega

theorem unzigzag_bounds {z : Nat} (h : z ≤ 65535) : -32768 ≤ unzigzag z ∧ unzigzag z ≤ 32767 := by
  rcases Nat.mod_two_eq_zero_or_one z with hz | hz
  · rw [unzigzag_of_even hz]; omega
  · rw [unzigzag_of_odd hz]; omega

/-! ## Fields of a host word (10 R153) -/

theorem getLsbD_place {n : Nat} (lo : Nat) (v : BitVec n) (i : Nat) :
    (place lo v).getLsbD i = (decide (i < 32) && decide (lo ≤ i) && v.getLsbD (i - lo)) := by
  by_cases hi : i < 32 <;> by_cases hlo : lo ≤ i <;> simp [place, hi, hlo]

theorem getElem_place {n : Nat} (lo : Nat) (v : BitVec n) (i : Nat) (h : i < 32) :
    (place lo v)[i] = (decide (lo ≤ i) && v.getLsbD (i - lo)) := by
  rw [← BitVec.getLsbD_eq_getElem, getLsbD_place, decide_eq_true h, Bool.true_and]

/-- A field put at a bit is read back from there. -/
theorem extractLsb'_place_self {n lo : Nat} (v : BitVec n) (h : lo + n ≤ 32) :
    (place lo v).extractLsb' lo n = v := by
  refine BitVec.eq_of_getLsbD_eq fun i hi => ?_
  have hin : lo + i < 32 := by omega
  simp [getElem_place, hi, hin]

/-- A field put elsewhere reads 0. -/
theorem extractLsb'_place_of_disjoint {n lo : Nat} (v : BitVec n) {lo' len : Nat} (h : lo' + len ≤ lo ∨ lo + n ≤ lo') :
    (place lo v).extractLsb' lo' len = 0#len := by
  refine BitVec.eq_of_getLsbD_eq fun i hi => ?_
  rcases h with hbelow | habove
  · have hlo : ¬ lo ≤ lo' + i := by omega
    simp [getLsbD_place, hlo]
  · have hge : v.getLsbD (lo' + i - lo) = false := BitVec.getLsbD_of_ge v _ (by omega)
    simp [getLsbD_place, hge]

/-! ## Frames of a step -/

theorem OnlyChanges.trans {bs cs : List Block} {s t u : State} (hst : OnlyChanges bs s t) (htu : OnlyChanges cs t u) :
    OnlyChanges (bs ++ cs) s u := by
  intro b hb
  have hs := hst b fun h => hb (List.mem_append_left cs h)
  have ht := htu b fun h => hb (List.mem_append_right bs h)
  cases b <;> exact ht.trans hs

theorem onlyChanges_setPins (v : Pins) (s : State) : OnlyChanges [.pins] s (s.setPins v) := by
  intro b hb
  cases b
  case pins => simp at hb
  all_goals exact rfl

theorem onlyChanges_setBanks (v : Banks) (s : State) : OnlyChanges [.banks] s (s.setBanks v) := by
  intro b hb
  cases b
  case banks => simp at hb
  all_goals exact rfl

theorem onlyChanges_setStat (v : StatusUnit) (s : State) : OnlyChanges [.stat] s (s.setStat v) := by
  intro b hb
  cases b
  case stat => simp at hb
  all_goals exact rfl

theorem onlyChanges_setEvent (e : Event) (s : State) : OnlyChanges [.stat] s (setEvent e s) :=
  onlyChanges_setStat _ s

/-! ## Host accesses (10 R153) -/

theorem hostAccess_of_hostOpen {s : State} (h : HostOpen s) (f : State → State) : hostAccess f s = f s := by
  have hpin : s.pins.resetPin = false := h
  simp [hostAccess, hpin]

theorem hostRead_of_hostOpen {s : State} (h : HostOpen s) (value : State → Word) (effect : State → State) :
    hostRead value effect s = effect (s.setPins { s.pins with dataOut := value s }) := by
  have hpin : s.pins.resetPin = false := h
  simp [hostRead, hpin]

theorem exec_tableDataWrite {s : State} (h : HostOpen s) (w : Word) :
    exec (.tableDataWrite w) s = .next (writeTable w s) :=
  congrArg Host.Outcome.next (hostAccess_of_hostOpen h (writeTable w))

theorem exec_tableDataRead {s : State} (h : HostOpen s) :
    exec .tableDataRead s =
      .next (advancePointer (s.setPins { s.pins with dataOut := s.banks.selected.dataWord })) :=
  congrArg Host.Outcome.next (hostRead_of_hostOpen h (fun s => s.banks.selected.dataWord) advancePointer)

/-! ## The selected table (02 R28 to R30) -/

@[simp] theorem Banks.get_put_self (b : Banks) (i : BankId) (k : Bank) : (b.put i k).get i = k := by
  cases i <;> rfl

@[simp] theorem Bank.get_put_self (k : Bank) (i : TableId) (t : BankTable) : (k.put i t).get i = t := by
  cases i <;> rfl

@[simp] theorem Banks.put_selBank (b : Banks) (i : BankId) (k : Bank) : (b.put i k).selBank = b.selBank := by
  cases i <;> rfl

@[simp] theorem Banks.put_selTable (b : Banks) (i : BankId) (k : Bank) : (b.put i k).selTable = b.selTable := by
  cases i <;> rfl

@[simp] theorem Banks.selected_putSelected (b : Banks) (t : BankTable) : (b.putSelected t).selected = t := by
  simp [Banks.selected, Banks.putSelected]

theorem writeTable_of_loading {s : State} (h : (s.banks.get s.banks.selBank).st = .loading) (w : Word) :
    writeTable w s = s.setBanks (s.banks.putSelected (s.banks.selected.write w)) := if_pos h

theorem writeTable_of_not_loading {s : State} (h : (s.banks.get s.banks.selBank).st ≠ .loading) (w : Word) :
    writeTable w s = setEvent .tableWriteIgnored s := if_neg h

/-- With bit 15 clear a write stores the entry at the pointer, which advances past it (02 R29). -/
theorem BankTable.write_entry {w : Word} (h : w.getLsbD 15 = false) (t : BankTable) :
    t.write w = ⟨{ t.table with
      entries := t.table.entries.set t.ptr.toNat ⟨w.getLsbD 4, w.extractLsb' 0 4⟩ t.ptr.isLt }, t.ptr + 1⟩ := by
  simp only [BankTable.write, h, field, Bool.false_eq_true, if_false]

/-- With bit 15 set a write stores the control word and leaves entries and pointer (02 R29). -/
theorem BankTable.write_control {w : Word} (h : w.getLsbD 15 = true) (t : BankTable) :
    t.write w =
      ⟨{ t.table with pol := w.getLsbD 8, short := w.getLsbD 9, sx := w.extractLsb' 10 4 }, t.ptr⟩ := by
  simp only [BankTable.write, h, field, if_true]

/-- The fields of the table data word, each at its bits (02 R30). -/
theorem BankTable.dataWord_fields (t : BankTable) :
    t.dataWord.extractLsb' 0 4 = (t.table.entries[t.ptr.toNat]'t.ptr.isLt).xcount ∧
      t.dataWord.getLsbD 4 = (t.table.entries[t.ptr.toNat]'t.ptr.isLt).last ∧
      t.dataWord.getLsbD 8 = t.table.pol ∧ t.dataWord.getLsbD 9 = t.table.short ∧
      t.dataWord.extractLsb' 10 4 = t.table.sx ∧ t.dataWord.extractLsb' 16 3 = t.ptr := by
  refine ⟨?_, ?_, ?_, ?_, ?_, ?_⟩ <;>
    simp [BankTable.dataWord, placeBit, BitVec.extractLsb'_or, extractLsb'_place_self, extractLsb'_place_of_disjoint,
      getElem_place]

theorem advancePointer_banks (s : State) :
    (advancePointer s).banks = s.banks.putSelected ⟨s.banks.selected.table, s.banks.selected.ptr + 1⟩ := rfl

theorem advancePointer_onlyChanges (s : State) : OnlyChanges [.banks] s (advancePointer s) := onlyChanges_setBanks _ s

/-! ## The obligations -/

/-- Settles O13: the two maps are inverse to each other everywhere, and each keeps to its range. -/
theorem zigzagFormRoundTrip : Obligations.ZigzagFormRoundTrip := by
  refine ⟨fun r hlo hhi => ⟨zigzag_of_nonneg, zigzag_of_neg, zigzag_le hlo hhi, unzigzag_zigzag r⟩, fun z hz => ?_⟩
  obtain ⟨hlo, hhi⟩ := unzigzag_bounds hz
  exact ⟨unzigzag_of_even, unzigzag_of_odd, hlo, hhi, zigzag_unzigzag z⟩

/-- Settles O57, by the state of the selected bank for a write and by the fields of the data word for a read. -/
theorem tablePorts : Obligations.TablePorts := by
  intro s w hopen
  refine ⟨fun hbank => ?ignored, fun hbank => ?written, ?read⟩
  case ignored =>
    refine ⟨_, exec_tableDataWrite hopen w, ?_⟩
    rw [writeTable_of_not_loading hbank]
    exact ⟨setEvent_stat _ s, onlyChanges_setEvent _ s⟩
  case written =>
    refine ⟨_, exec_tableDataWrite hopen w, ?_⟩
    rw [writeTable_of_loading hbank]
    refine ⟨onlyChanges_setBanks _ s, by simp, fun hentry => ?_, fun hcontrol => ?_⟩
    · simp [BankTable.write_entry hentry]
    · simp [BankTable.write_control hcontrol]
  case read =>
    exact ⟨_, exec_tableDataRead hopen, (onlyChanges_setPins _ s).trans (advancePointer_onlyChanges _),
      advancePointer_banks _, rfl, s.banks.selected.dataWord_fields⟩

end Sys2Proof.Machine

/-! PROOFS. The host's write of the error capture, and its order with a report. -/

namespace Sys2Proof.Machine

/-! ## The error capture (03 R53, R54) -/

theorem onlyChanges_setStore (v : Store) (s : State) : OnlyChanges [.store] s (s.setStore v) := by
  intro b hb
  cases b
  case store => simp at hb
  all_goals exact rfl

/-- An empty capture takes the report, and LOST stays as it is (03 R53). -/
theorem reportError_of_empty {s : State} (h : s.store.capture = none) (k : Capture) :
    reportError k s = s.setStore { s.store with capture := some k } := by
  simp [reportError, h]

/-- A report changes the capture and LOST alone, whatever the capture holds (03 R53). -/
theorem reportError_eq_setStore (k : Capture) (s : State) :
    ∃ c l, reportError k s = s.setStore { s.store with capture := c, lost := l } := by
  unfold reportError
  split
  case h_1 => exact ⟨_, _, rfl⟩
  case h_2 =>
    split
    case isTrue => exact ⟨_, _, rfl⟩
    case isFalse => exact ⟨_, _, rfl⟩

theorem emptyCapture_store (s : State) :
    (emptyCapture s).store = { s.store with capture := none, lost := false } := rfl

theorem emptyCapture_onlyChanges (s : State) : OnlyChanges [.store] s (emptyCapture s) := onlyChanges_setStore _ s

theorem reportError_emptyCapture_store (k : Capture) (s : State) :
    (reportError k (emptyCapture s)).store = { (emptyCapture s).store with capture := some k } := by
  have hempty : (emptyCapture s).store.capture = none := rfl
  rw [reportError_of_empty hempty, State.setStore_store]

/-- Emptying the capture takes back all that a report did. -/
theorem emptyCapture_reportError (k : Capture) (s : State) : emptyCapture (reportError k s) = emptyCapture s := by
  obtain ⟨c, l, hreport⟩ := reportError_eq_setStore k s
  rw [hreport]; rfl

theorem hostOpen_reportError {s : State} (h : HostOpen s) (k : Capture) : HostOpen (reportError k s) := by
  have hpin : s.pins.resetPin = false := h
  simp [HostOpen, hpin]

theorem exec_errorCaptureWrite {s : State} (h : HostOpen s) (w : Word) :
    exec (.errorCaptureWrite w) s = .next (emptyCapture s) :=
  congrArg Host.Outcome.next (hostAccess_of_hostOpen h emptyCapture)

/-- Settles O58: the write empties the capture, a report after it finds the capture empty, and one before it is undone. -/
theorem errorCaptureWriteEmpties : Obligations.ErrorCaptureWriteEmpties := by
  intro s w hopen
  refine ⟨emptyCapture s, exec_errorCaptureWrite hopen w, emptyCapture_store s, emptyCapture_onlyChanges s,
    fun k => reportError_emptyCapture_store k s, fun k => ?reportBefore⟩
  case reportBefore =>
    exact ⟨_, exec_errorCaptureWrite (hostOpen_reportError hopen k) w, emptyCapture_reportError k s⟩

end Sys2Proof.Machine

/-! PROOFS. The Feedback Queue's answer to an offer: coalescing with an entry it holds for the number, joining the tail, and the
overflow of a full queue. -/

namespace Sys2Proof.Machine

/-! ## What the queue decides (06 R108, R109) -/

theorem FbKind.ne_ack_iff {k : FbKind} : k ≠ .ack ↔ k = .refresh := by cases k <;> decide

section
variable {q before after : List FbEntry} {old a e : FbEntry}

/-- The search for the offered number stops at the entry the queue holds for it. -/
theorem find?_number_of_held (hold : old.n = e.n) (hbefore : ∀ x ∈ before, x.n ≠ e.n) :
    (before ++ old :: after).find? (fun x => x.n = e.n) = some old := by
  have hnone : before.find? (fun x => x.n = e.n) = none := List.find?_eq_none.mpr (by simpa using hbefore)
  rw [List.find?_append, hnone, Option.none_or, List.find?_cons_of_pos (by simpa using hold)]

/-- Writing the offered entry over its number replaces the entry held for it, in its position. -/
theorem map_replace_of_held (hold : old.n = e.n) (hbefore : ∀ x ∈ before, x.n ≠ e.n) (hafter : ∀ x ∈ after, x.n ≠ e.n) :
    (before ++ old :: after).map (fun x => if x.n = e.n then e else x) = before ++ e :: after := by
  have hkept : ∀ l : List FbEntry, (∀ x ∈ l, x.n ≠ e.n) → l.map (fun x => if x.n = e.n then e else x) = l :=
    fun l hl => (List.map_congr_left fun x hx => if_neg (hl x hx)).trans l.map_id
  rw [List.map_append, List.map_cons, if_pos hold, hkept before hbefore, hkept after hafter]

/-- Only a REFRESH over an ACK of its number changes the queue (06 R108). -/
theorem offerTo_of_held_unchanged (hfound : q.find? (fun x => x.n = e.n) = some old)
    (hkinds : ¬ (old.kind = .ack ∧ e.kind = .refresh)) : offerTo q e = (q, false) := by
  simp only [offerTo, hfound, if_neg hkinds]

theorem offerTo_refresh_replaces_ack (hold : old.n = e.n) (hbefore : ∀ x ∈ before, x.n ≠ e.n)
    (hafter : ∀ x ∈ after, x.n ≠ e.n) (hack : old.kind = .ack) (hrefresh : e.kind = .refresh) :
    offerTo (before ++ old :: after) e = (before ++ e :: after, false) := by
  simp only [offerTo, find?_number_of_held hold hbefore, if_pos (And.intro hack hrefresh),
    map_replace_of_held hold hbefore hafter]

theorem find?_number_of_absent (habsent : ∀ x ∈ q, x.n ≠ e.n) : q.find? (fun x => x.n = e.n) = none :=
  List.find?_eq_none.mpr (by simpa using habsent)

theorem offerTo_of_room (habsent : ∀ x ∈ q, x.n ≠ e.n) (hroom : q.length < 16) : offerTo q e = (q ++ [e], false) := by
  simp [offerTo, find?_number_of_absent habsent, Config.feedbackEntries, hroom]

theorem offerTo_ack_of_full (habsent : ∀ x ∈ q, x.n ≠ e.n) (hfull : q.length = 16) (hack : e.kind = .ack) :
    offerTo q e = (q, true) := by
  simp [offerTo, find?_number_of_absent habsent, Config.feedbackEntries, hfull, hack]

theorem offerTo_refresh_of_full (habsent : ∀ x ∈ q, x.n ≠ e.n) (hfull : q.length = 16) (hrefresh : e.kind = .refresh) :
    offerTo q e =
      if q.any (fun x => x.kind = .ack) then (q.eraseP (fun x => x.kind = .ack) ++ [e], true) else (q, true) := by
  simp [offerTo, find?_number_of_absent habsent, Config.feedbackEntries, hfull, hrefresh]

/-- A full queue gives up its oldest ACK for an offered REFRESH (06 R109). -/
theorem offerTo_refresh_displaces_ack (habsent : ∀ x ∈ before ++ a :: after, x.n ≠ e.n)
    (hfull : (before ++ a :: after).length = 16) (hrefresh : e.kind = .refresh) (hack : a.kind = .ack)
    (holdest : ∀ x ∈ before, x.kind = .refresh) :
    offerTo (before ++ a :: after) e = (before ++ after ++ [e], true) := by
  have hany : (before ++ a :: after).any (fun x => x.kind = .ack) = true := by simp [hack]
  have herase : (before ++ a :: after).eraseP (fun x => x.kind = .ack) = before ++ after := by
    have hskip : ∀ x ∈ before, ¬ decide (x.kind = .ack) = true := fun x hx => by simp [holdest x hx]
    rw [List.eraseP_append_right _ hskip, List.eraseP_cons_of_pos (by simpa using hack)]
  rw [offerTo_refresh_of_full habsent hfull hrefresh, if_pos hany, herase]

theorem offerTo_refresh_of_full_without_ack (habsent : ∀ x ∈ q, x.n ≠ e.n) (hfull : q.length = 16)
    (hrefresh : e.kind = .refresh) (hnoAck : ∀ x ∈ q, x.kind = .refresh) : offerTo q e = (q, true) := by
  have hany : ¬ q.any (fun x => x.kind = .ack) = true := by simpa [FbKind.ne_ack_iff] using hnoAck
  rw [offerTo_refresh_of_full habsent hfull hrefresh, if_neg hany]

/-- A full queue counts every offer of a new number as an overflow: the offer is dropped, or it takes one entry's place. -/
theorem offerTo_overflow_of_full (habsent : ∀ x ∈ q, x.n ≠ e.n) (hfull : q.length = 16) :
    offerTo q e = (q, true) ∨
      ∃ before a after, q = before ++ a :: after ∧ offerTo q e = (before ++ after ++ [e], true) := by
  cases hkind : e.kind with
  | ack => exact .inl (offerTo_ack_of_full habsent hfull hkind)
  | refresh =>
    by_cases hnoAck : ∀ x ∈ q, x.kind = .refresh
    case pos => exact .inl (offerTo_refresh_of_full_without_ack habsent hfull hkind hnoAck)
    case neg =>
      obtain ⟨x, hx, hxack⟩ : ∃ x ∈ q, x.kind = .ack := by simpa [← FbKind.ne_ack_iff] using hnoAck
      obtain ⟨a, before, after, hskip, hack, rfl, -⟩ :=
        List.exists_of_eraseP (p := fun x : FbEntry => x.kind = .ack) hx (by simpa using hxack)
      refine .inr ⟨before, a, after, rfl,
        offerTo_refresh_displaces_ack habsent hfull hkind (by simpa using hack) fun y hy => ?_⟩
      exact FbKind.ne_ack_iff.mp (by simpa using hskip y hy)

theorem offerTo_length_of_full (habsent : ∀ x ∈ q, x.n ≠ e.n) (hfull : q.length = 16) :
    (offerTo q e).1.length = 16 := by
  obtain hdropped | ⟨before, a, after, rfl, hdisplaced⟩ := offerTo_overflow_of_full habsent hfull
  · rw [hdropped]; exact hfull
  · rw [hdisplaced]; simp at hfull ⊢; omega

theorem offerTo_overflows_of_full (habsent : ∀ x ∈ q, x.n ≠ e.n) (hfull : q.length = 16) : (offerTo q e).2 = true := by
  obtain hdropped | ⟨_, _, _, -, hdisplaced⟩ := offerTo_overflow_of_full habsent hfull
  · rw [hdropped]
  · rw [hdisplaced]

end

/-! ## What an offer counts and latches -/

section
variable {s : State} {e : FbEntry} {q : List FbEntry}

theorem offer_fbq_of_offerTo {b : Bool} (h : offerTo s.fbq e = (q, b)) : (offer e s).fbq = q := by
  rw [offer_fbq, h]

/-- An offer the queue takes without overflow counts nothing and sets no event. -/
theorem offer_status_of_no_overflow (h : (offerTo s.fbq e).2 = false) :
    (offer e s).stats = s.stats ∧ (offer e s).stat = s.stat := by
  simp [offer_stats, offer_stat, overflowCount, overflowEvent, h]

theorem offer_status_of_overflow (h : (offerTo s.fbq e).2 = true) :
    (offer e s).stats = s.stats.counted [.fbOverflow] ∧ (offer e s).stat = s.stat.latched [.feedbackOverflow] := by
  simp [offer_stats, offer_stat, overflowCount, overflowEvent, h]

end

/-- Settles O25, by the kinds of the entry held and the entry offered. -/
theorem coalescingRules : Obligations.CoalescingRules := by
  intro s before after old e hq hold hothers
  obtain ⟨hbefore, hafter⟩ := List.forall_mem_append.mp hothers
  have hfound : s.fbq.find? (fun x => x.n = e.n) = some old := hq ▸ find?_number_of_held hold hbefore
  by_cases hkinds : old.kind = .ack ∧ e.kind = .refresh
  case pos =>
    obtain ⟨hack, hrefresh⟩ := hkinds
    have hreplaced : offerTo s.fbq e = (before ++ e :: after, false) :=
      hq ▸ offerTo_refresh_replaces_ack hold hbefore hafter hack hrefresh
    obtain ⟨hstats, hstat⟩ := offer_status_of_no_overflow (congrArg Prod.snd hreplaced)
    simp [hstats, hstat, offer_fbq_of_offerTo hreplaced, hack, hrefresh]
  case neg =>
    have hunchanged := offerTo_of_held_unchanged hfound hkinds
    obtain ⟨hstats, hstat⟩ := offer_status_of_no_overflow (congrArg Prod.snd hunchanged)
    have hfbq := offer_fbq_of_offerTo hunchanged
    exact ⟨hstats, hstat, fun _ _ => hfbq, fun hack hrefresh => absurd ⟨hack, hrefresh⟩ hkinds, fun _ _ => hfbq,
      fun _ _ => hfbq⟩

/-- Settles O26: below 16 entries by the join at the tail, at 16 by what the queue gives up for the offer. -/
theorem overflowRules : Obligations.OverflowRules := by
  intro s e habsent
  refine ⟨fun hroom => ?room, fun hfull => ?full⟩
  case room =>
    have hjoined := offerTo_of_room habsent hroom
    exact ⟨offer_fbq_of_offerTo hjoined, offer_status_of_no_overflow (congrArg Prod.snd hjoined)⟩
  case full =>
    obtain ⟨hstats, hstat⟩ := offer_status_of_overflow (offerTo_overflows_of_full habsent hfull)
    have hlength : (offer e s).fbq.length = 16 := by rw [offer_fbq, offerTo_length_of_full habsent hfull]
    refine ⟨hlength, hstats, hstat, fun hack => ?ackDropped, fun before a after hrefresh hq hack holdest => ?ackDisplaced,
      fun hrefresh hnoAck => ?refreshDropped⟩
    case ackDropped => exact offer_fbq_of_offerTo (offerTo_ack_of_full habsent hfull hack)
    case ackDisplaced =>
      rw [hq] at habsent hfull
      exact offer_fbq_of_offerTo (hq ▸ offerTo_refresh_displaces_ack habsent hfull hrefresh hack holdest)
    case refreshDropped =>
      exact offer_fbq_of_offerTo (offerTo_refresh_of_full_without_ack habsent hfull hrefresh hnoAck)

end Sys2Proof.Machine

/-! PROOFS. What a step may change: the blocks each command can change, from the frames of the operations, the cases of a command
write, and the rule by which an invariant is carried over a step. -/

namespace Sys2Proof.Machine

/-! ## Frames of blocks -/

/-- The blocks of the state, in the order in which the frame lemmas name them. -/
noncomputable def allBlocks : List Block :=
  [.pending, .pins, .cfg, .banks, .store, .arb, .exp, .comp, .fbq, .lrx, .ltx, .timer, .sweep, .stats, .host, .cu, .stat]

/-- The blocks outside `bs`. -/
noncomputable def keptBlocks (bs : List Block) : List Block := allBlocks.filter fun b => !bs.contains b

theorem mem_keptBlocks {bs : List Block} {b : Block} (hb : b ∉ bs) : b ∈ keptBlocks bs :=
  List.mem_filter.mpr ⟨List.contains_iff_mem.mp (by induction b using Block.casesOn <;> exact Eq.refl true), by simpa using hb⟩

/-- A frame lemma that names every block outside `bs`. -/
theorem onlyChanges_of_frame {s t : State} (bs : List Block) (h : (keptBlocks bs).Forall (agreeOn · s t)) :
    OnlyChanges bs s t := fun b hb => List.forall_iff_forall_mem.mp h b (mem_keptBlocks hb)

theorem OnlyChanges.mono {bs cs : List Block} {s t : State} (h : OnlyChanges bs s t)
    (hsub : bs.all (cs.contains ·) = true) : OnlyChanges cs s t := fun b hb => h b fun hmem => hb <| by
  simpa using List.all_eq_true.mp hsub b hmem

/-- `s` with one block of `t`. -/
noncomputable def State.withBlock (t s : State) : Block → State
  | .pending => s.setPending t.pending
  | .pins => s.setPins t.pins
  | .cfg => s.setCfg t.cfg
  | .banks => s.setBanks t.banks
  | .store => s.setStore t.store
  | .arb => s.setArb t.arb
  | .exp => s.setExp t.exp
  | .comp => s.setComp t.comp
  | .fbq => s.setFbq t.fbq
  | .lrx => s.setLrx t.lrx
  | .ltx => s.setLtx t.ltx
  | .timer => s.setTimer t.timer
  | .sweep => s.setSweep t.sweep
  | .stats => s.setStats t.stats
  | .host => s.setHost t.host
  | .cu => s.setCu t.cu
  | .stat => s.setStat t.stat

theorem agreeOn_of_withBlock {s t : State} {b : Block} (h : t.withBlock s b = s) : agreeOn b s t := by
  induction b with
  | pending => exact (congrArg State.pending h :)
  | pins => exact (congrArg State.pins h :)
  | cfg => exact (congrArg State.cfg h :)
  | banks => exact (congrArg State.banks h :)
  | store => exact (congrArg State.store h :)
  | arb => exact (congrArg State.arb h :)
  | exp => exact (congrArg State.exp h :)
  | comp => exact (congrArg State.comp h :)
  | fbq => exact (congrArg State.fbq h :)
  | lrx => exact (congrArg State.lrx h :)
  | ltx => exact (congrArg State.ltx h :)
  | timer => exact (congrArg State.timer h :)
  | sweep => exact (congrArg State.sweep h :)
  | stats => exact (congrArg State.stats h :)
  | host => exact (congrArg State.host h :)
  | cu => exact (congrArg State.cu h :)
  | stat => exact (congrArg State.stat h :)

/-- A state that is `s` with other values in `bs`: the premise is closed by `rfl`. -/
theorem onlyChanges_of_eq {s t : State} (bs : List Block)
    (h : (keptBlocks bs).map (t.withBlock s) = (keptBlocks bs).map fun _ => s) : OnlyChanges bs s t := fun b hb =>
  agreeOn_of_withBlock (List.map_inj_left.mp h b (mem_keptBlocks hb))

theorem OnlyChanges.refl (bs : List Block) (s : State) : OnlyChanges bs s s := (onlyChanges_of_eq [] rfl).mono rfl

/-- What a step does in `u` after `t`, in one frame. -/
theorem OnlyChanges.andThen {bs cs ds : List Block} {s t u : State} (hst : OnlyChanges bs s t) (htu : OnlyChanges cs t u)
    (hsub : (bs ++ cs).all (ds.contains ·) = true) : OnlyChanges ds s u := (hst.trans htu).mono hsub

/-- A block outside the frame is as it was. -/
theorem OnlyChanges.same {bs : List Block} {s t : State} (h : OnlyChanges bs s t) (b : Block)
    (hb : bs.contains b = false) : agreeOn b s t := h b (by simpa using hb)

/-- A block of the frame that is as it was may be left out. -/
theorem OnlyChanges.without {bs cs : List Block} {s t : State} {b : Block} (h : OnlyChanges bs s t) (hb : agreeOn b s t)
    (hsub : bs.all (fun c => c = b || cs.contains c) = true) : OnlyChanges cs s t := fun c hc => by
  by_cases hcb : c = b
  · exact hcb ▸ hb
  · refine h c fun hmem => hc ?_
    simpa [hcb] using List.all_eq_true.mp hsub c hmem

/-- Both branches of a test. -/
theorem ite_keeps {α : Type} {P : α → Prop} {c : Prop} [Decidable c] {s t : α} (hpos : c → P s) (hneg : ¬ c → P t) :
    P (if c then s else t) := by
  split
  · exact hpos ‹_›
  · exact hneg ‹_›

theorem hostAccess_keeps {P : State → Prop} {f : State → State} {s : State} (h : P s) (hf : P (f s)) :
    P (hostAccess f s) := ite_keeps (fun _ => h) fun _ => hf

/-! ## A write of the command word (10 R159) -/

/-- A write of the command word resets the device, is refused, completes at once, or is accepted and run. -/
theorem commandWrite_cases {P : State → Prop} (c : Command) (s : State)
    (hreset : c = .deviceReset → P (deviceReset s)) (hbusy : P (refuseBusy s)) (hdone : ∀ r, s.cu.st = .idle → P (complete r s))
    (hrun : s.cu.st = .idle → s.store.st ≠ .starting → P (runCommand c (acceptCommand s))) : P (commandWrite c s) := by
  have hidle : ¬ s.cu.st.busyBit = true → s.cu.st = .idle := by
    induction s.cu.st with
    | idle => exact fun _ => rfl
    | busy _ _ _ => exact fun h => absurd rfl h
    | walk _ _ => exact fun h => absurd rfl h
  exact ite_keeps hreset fun _ => ite_keeps (fun _ => hbusy) fun hfree => ite_keeps (fun _ => hdone _ (hidle hfree))
    fun hstore => ite_keeps (fun _ => hdone _ (hidle hfree)) fun _ => hrun (hidle hfree) hstore

theorem complete_onlyChanges (r : Result) (s : State) : OnlyChanges [.cu, .stat] s (complete r s) :=
  onlyChanges_of_frame _ (complete_frame r s)

/-- What a write of a register may change: all but the queue and the pins. -/
noncomputable def registerBlocks : List Block :=
  [.cfg, .banks, .store, .arb, .exp, .comp, .fbq, .lrx, .ltx, .timer, .sweep, .stats, .host, .cu, .stat]

theorem deviceReset_onlyChanges (s : State) : OnlyChanges registerBlocks s (deviceReset s) :=
  onlyChanges_of_eq registerBlocks rfl

theorem acceptCommand_onlyChanges (s : State) : OnlyChanges [.cu] s (acceptCommand s) :=
  onlyChanges_of_frame _ (acceptCommand_frame s)

theorem snapshotNow_onlyChanges (s : State) : OnlyChanges [.store, .stats, .stat] s (snapshotNow s) :=
  onlyChanges_of_frame _ (snapshotNow_frame s)

theorem linkReset_onlyChanges (s : State) :
    OnlyChanges [.arb, .exp, .comp, .fbq, .lrx, .ltx, .stats, .host, .stat] s (linkReset s) :=
  onlyChanges_of_frame _ (linkReset_frame s)

theorem startTransaction_onlyChanges (c : StoreCmd) (s : State) : OnlyChanges [.arb, .cu] s (startTransaction c s) :=
  onlyChanges_of_frame _ (startTransaction_frame c s)

theorem onBank_onlyChanges {bs : List Block} {f : BankId → State → State} {s : State}
    (hf : ∀ k, OnlyChanges bs s (f k s)) (hunit : [Block.cu, .stat].all (bs.contains ·) = true) :
    OnlyChanges bs s (onBank f s) := by
  unfold onBank
  induction s.cu.argBank with
  | none => exact (complete_onlyChanges _ s).mono hunit
  | some k => exact hf k

theorem runCommand_onlyChanges (c : Command) (s : State) : OnlyChanges registerBlocks s (runCommand c s) := by
  induction c with
  | readRx | readTx | retireRx | retireTx | pin | unpin | findTx | clearDegraded =>
    exact (startTransaction_onlyChanges _ s).mono rfl
  | loadRx | loadTx =>
    exact ite_keeps (fun _ => (startTransaction_onlyChanges _ s).mono rfl) fun _ => (complete_onlyChanges _ s).mono rfl
  | retireAllRx | retireAllTx => exact (onlyChanges_of_frame [.arb, .cu] (startWalk_frame _ s)).mono rfl
  | openBank => exact onBank_onlyChanges (fun k => (onlyChanges_of_frame [.banks, .cu, .stat] (openBank_frame k s)).mono rfl) rfl
  | closeBank => exact onBank_onlyChanges (fun k => (onlyChanges_of_frame [.banks, .cu, .stat] (closeBank_frame k s)).mono rfl) rfl
  | selectTxBank => exact onBank_onlyChanges (fun k => (onlyChanges_of_frame [.comp, .cu, .stat] (selectBank_frame k s)).mono rfl) rfl
  | snapshot =>
    exact (snapshotNow_onlyChanges s).andThen (complete_onlyChanges _ _) rfl
  | linkReset => exact (linkReset_onlyChanges s).andThen (complete_onlyChanges _ _) rfl
  | deviceReset => exact deviceReset_onlyChanges s
  | unknown => exact (complete_onlyChanges _ s).mono rfl

theorem commandWrite_onlyChanges (c : Command) (s : State) : OnlyChanges registerBlocks s (commandWrite c s) :=
  commandWrite_cases c s (fun _ => deviceReset_onlyChanges s)
    ((onlyChanges_of_frame [.cu, .stat] (refuseBusy_frame s)).mono rfl) (fun r _ => (complete_onlyChanges r s).mono rfl)
    fun _ _ => (acceptCommand_onlyChanges s).andThen (runCommand_onlyChanges c _) rfl

/-! ## A write of a register (10 R153) -/

/-- An address is a low or a high one. -/
theorem mem_addresses (a : BitVec 6) : a ∈ (List.range 32).map (BitVec.ofNat 6) ∨ a ∈ (List.range 32).map (BitVec.ofNat 6 <| · + 32) := by
  have ha : BitVec.ofNat 6 a.toNat = a := (BitVec.ofNat_toNat ..).trans (BitVec.setWidth_eq a)
  by_cases hlow : a.toNat < 32
  · exact .inl (List.mem_map.mpr ⟨a.toNat, List.mem_range.mpr hlow, ha⟩)
  · have hhigh : a.toNat - 32 + 32 = a.toNat := Nat.sub_add_cancel (Nat.le_of_not_lt hlow)
    exact .inr (List.mem_map.mpr ⟨a.toNat - 32, List.mem_range.mpr (Nat.sub_lt_right_of_lt_add (Nat.le_of_not_lt hlow) a.isLt),
      (congrArg (BitVec.ofNat 6) hhigh).trans ha⟩)

section
variable {P : State → Prop} {w : Word} {s : State} (hself : P s) (hsettings : ∀ k, P (writeSettings k w s))
include hself hsettings

/-- The addresses 32 to 63: configuration fields, the monitor and the statistics. -/
theorem writeRegister_high (hstat : ∀ u, P (s.setStat u)) (hstats : ∀ u, P (s.setStats u)) {a : BitVec 6}
    (ha : a ∈ (List.range 32).map (BitVec.ofNat 6 <| · + 32)) : P (writeRegister a w s) := by
  have hall : [32#6, 33#6, 34#6, 35#6, 36#6, 37#6, 38#6, 39#6, 40#6, 41#6, 42#6, 43#6, 44#6, 45#6, 46#6, 47#6, 48#6, 49#6, 50#6,
      51#6, 52#6, 53#6, 54#6, 55#6, 56#6, 57#6, 58#6, 59#6, 60#6, 61#6, 62#6, 63#6].Forall fun a => P (writeRegister a w s) :=
    ⟨hsettings _, hsettings _, hsettings _, hsettings _, hsettings _, hsettings _, hstat _, hself, hself, hstats _, hself, hself,
      hself, hself, hself, hself, hself, hself, hself, hself, hself, hself, hself, hself, hself, hself, hself, hself, hself, hself,
      hself, hself⟩
  exact List.forall_iff_forall_mem.mp hall a ha

end

/-- A write of a register: the writes that reach more than the status, the command unit, the timer and the statistics one by one,
the others by what they leave unchanged. -/
theorem writeRegister_cases {P : State → Prop} (a : BitVec 6) (w : Word) (s : State)
    (hframe : ∀ t, OnlyChanges [.timer, .stats, .cu, .stat] s t → t.cu.st = s.cu.st → P t)
    (hcontrol : P (writeControl w s)) (hword : P (writeWord w s)) (hcommit : ∀ n, P (commitMessage n s))
    (hcommand : ∀ c, P (commandWrite c s)) (hselect : P (selectTable w s)) (htable : P (writeTable w s))
    (hcapture : P (emptyCapture s)) (htimer : P (writeTimerControl w s)) (hsettings : ∀ k, P (writeSettings k w s)) :
    P (writeRegister a w s) := by
  have hself : P s := hframe s (OnlyChanges.refl _ s) rfl
  have hwindow : ∀ i, P (writeWindow i w s) := fun i => hframe _
    ((onlyChanges_of_frame [.cu, .stat] (writeWindow_frame i w s)).mono rfl)
    (ite_keeps (P := fun t : State => t.cu.st = s.cu.st) (fun _ => rfl) fun _ => rfl)
  have hstat : ∀ u : StatusUnit, P (s.setStat u) := fun u => hframe _ ((onlyChanges_setStat u s).mono rfl) rfl
  have htimers : ∀ u : Timer, P (s.setTimer u) := fun u => hframe _
    (onlyChanges_of_eq _ rfl) rfl
  have hcu : P (s.setCu { s.cu with argument := w }) := hframe _
    (onlyChanges_of_eq _ rfl) rfl
  have hstats : ∀ u, P (s.setStats u) := fun u => hframe _
    (onlyChanges_of_eq _ rfl) rfl
  have hall : [0#6, 1#6, 2#6, 3#6, 4#6, 5#6, 6#6, 7#6, 8#6, 9#6, 10#6, 11#6, 12#6, 13#6, 14#6, 15#6, 16#6, 17#6, 18#6, 19#6,
      20#6, 21#6, 22#6, 23#6, 24#6, 25#6, 26#6, 27#6, 28#6, 29#6, 30#6, 31#6].Forall fun a => P (writeRegister a w s) :=
    ⟨hself, hcontrol, hself, hstat _, hstat _, hstat _, hself, hself, hword, hcommit _, hcommand _, hcu, hself,
      hwindow _, hwindow _, hwindow _, hwindow _, hwindow _, hwindow _, hwindow _, hwindow _,
      hselect, htable, hself, hcapture, htimers _, htimers _, htimer, hsettings _, hsettings _, hsettings _, hsettings _⟩
  exact (mem_addresses a).elim (List.forall_iff_forall_mem.mp hall a) (writeRegister_high hself hsettings hstat hstats)

theorem writeRegister_onlyChanges (a : BitVec 6) (w : Word) (s : State) :
    OnlyChanges registerBlocks s (writeRegister a w s) :=
  writeRegister_cases a w s (fun _ h _ => h.mono rfl)
    ((onlyChanges_of_frame [.arb, .comp, .lrx, .ltx, .stats, .host, .stat] (writeControl_frame w s)).mono rfl)
    ((onlyChanges_of_frame [.host] (writeWord_frame w s)).mono rfl)
    (fun n => (onlyChanges_of_frame [.host, .stat] (commitMessage_frame n s)).mono rfl)
    (fun c => commandWrite_onlyChanges c s) ((onlyChanges_of_frame [.banks] (selectTable_frame w s)).mono rfl)
    ((onlyChanges_of_frame [.banks, .stat] (writeTable_frame w s)).mono rfl) ((emptyCapture_onlyChanges s).mono rfl)
    ((onlyChanges_of_frame [.store, .arb, .lrx, .timer, .sweep, .stats, .stat] (writeTimerControl_frame w s)).mono rfl)
    fun k => (onlyChanges_of_frame [.cfg, .ltx] (writeSettings_frame k w s)).mono rfl

/-! ## Every command -/

/-- The row answers a next state, and it satisfies `P`. -/
def Answers (P : State → Prop) (c : Instr) (s : State) : Prop :=
  match exec c s with
  | .next t => P t
  | .fault _ => False
  | .refused _ => False

theorem Answers.exists_next {P : State → Prop} {c : Instr} {s : State} (h : Answers P c s) :
    ∃ t, exec c s = .next t ∧ P t := by
  revert h
  unfold Answers
  induction exec c s with
  | next t => exact fun h => ⟨t, rfl, h⟩
  | _ => exact False.elim

theorem Answers.intro {P : State → Prop} {c : Instr} {s t : State} (hexec : exec c s = .next t) (h : P t) :
    Answers P c s := by
  unfold Answers
  rwa [hexec]

theorem Answers.of_next {P : State → Prop} {c : Instr} {s t : State} (h : Answers P c s) (hexec : exec c s = .next t) :
    P t := by
  unfold Answers at h
  rwa [hexec] at h

/-! The rows that act only in one state of their engine: elsewhere they answer the state itself. `R` is what is
known of the engine. -/

section
variable {P : State → Prop} {s : State}

theorem Answers.expandFull {R : Option (Option (Fin 2) × ExpWork) → Prop} (hR : R s.expTransaction)
    (hself : P s)
    (hrun : ∀ b n hd st p, R (some (b, .full n hd st p)) →
      P (endExpTransaction b (some (fullTransaction n hd st p s).2) (fullTransaction n hd st p s).1)) :
    Answers P .expandFull s := by
  refine .intro rfl ?_
  revert hR
  induction s.expTransaction with
  | none => exact fun _ => hself
  | some o =>
    induction o with | mk b w
    induction w with
    | full n hd st p => exact hrun b n hd st p
    | _ => exact fun _ => hself

theorem Answers.expandDelta {R : Option (Option (Fin 2) × ExpWork) → Prop} (hR : R s.expTransaction)
    (hself : P s)
    (hrun : ∀ b n d r st check p, R (some (b, .delta n d r st check p)) →
      P (endExpTransaction b (deltaTransaction n d r st check p s).2 (deltaTransaction n d r st check p s).1)) :
    Answers P .expandDelta s := by
  refine .intro rfl ?_
  revert hR
  induction s.expTransaction with
  | none => exact fun _ => hself
  | some o =>
    induction o with | mk b w
    induction w with
    | delta n d r st check p => exact hrun b n d r st check p
    | _ => exact fun _ => hself

theorem Answers.expandBrief {R : Option (Option (Fin 2) × ExpWork) → Prop} (hR : R s.expTransaction)
    (hself : P s)
    (hrun : ∀ b n check p, R (some (b, .brief n check p)) →
      P (endExpTransaction b (briefTransaction n check p s).2 (briefTransaction n check p s).1)) :
    Answers P .expandBrief s := by
  refine .intro rfl ?_
  revert hR
  induction s.expTransaction with
  | none => exact fun _ => hself
  | some o =>
    induction o with | mk b w
    induction w with
    | brief n check p => exact hrun b n check p
    | _ => exact fun _ => hself

theorem Answers.rxEntryWrite {R : ExpState → Prop} (hR : R s.exp) (hself : P s)
    (hrun : ∀ b e, R (.deliver b e) → P (endWork (some b) (pushEntry e s))) : Answers P .rxEntryWrite s := by
  refine .intro rfl ?_
  revert hR
  induction s.exp with
  | deliver b e => exact hrun b e
  | _ => exact fun _ => hself

theorem Answers.ackApply {R : Option (Option (Fin 2) × ExpWork) → Prop} (hR : R s.expTransaction)
    (hself : P s)
    (hrun : ∀ b n es, R (some (b, .feedback ⟨.ack, n⟩ es)) → P (endEntry b es (ackEntry n s))) :
    Answers P .ackApply s := by
  refine .intro rfl ?_
  revert hR
  induction s.expTransaction with
  | none => exact fun _ => hself
  | some o =>
    induction o with | mk b w
    induction w with
    | feedback e es =>
      induction e with | mk kind n
      induction kind with
      | ack => exact hrun b n es
      | refresh => exact fun _ => hself
    | _ => exact fun _ => hself

theorem Answers.refreshApply {R : Option (Option (Fin 2) × ExpWork) → Prop} (hR : R s.expTransaction)
    (hself : P s)
    (hrun : ∀ b n es, R (some (b, .feedback ⟨.refresh, n⟩ es)) → P (endEntry b es (refreshEntry n s))) :
    Answers P .refreshApply s := by
  refine .intro rfl ?_
  revert hR
  induction s.expTransaction with
  | none => exact fun _ => hself
  | some o =>
    induction o with | mk b w
    induction w with
    | feedback e es =>
      induction e with | mk kind n
      induction kind with
      | ack => exact fun _ => hself
      | refresh => exact hrun b n es
    | _ => exact fun _ => hself

theorem Answers.take {R : CompWork → Prop} (hR : R s.comp.work) (hself : P s)
    (hrun : ∀ m f fate, R (.taking m f fate) → s.holds .compressor = true → P (takeGranted m f fate s)) :
    Answers P .take s := by
  refine .intro rfl ?_
  revert hR
  induction s.comp.work with
  | taking m f fate => exact fun hR => ite_keeps (fun hheld => hrun m f fate hR hheld.1) fun _ => hself
  | _ => exact fun _ => hself

theorem Answers.takeAbandonedGrant {R : CompWork → Prop} (hR : R s.comp.work) (hself : P s)
    (hrun : ∀ m f, R (.taking m f .discard) → s.holds .compressor = true →
      P (answerAbandoned none (countAborted (endTransaction s)))) : Answers P .takeAbandonedGrant s := by
  refine .intro rfl ?_
  revert hR
  induction s.comp.work with
  | taking m f fate =>
    induction fate with
    | discard => exact fun hR => ite_keeps (hrun m f hR) fun _ => hself
    | _ => exact fun _ => hself
  | _ => exact fun _ => hself

theorem Answers.abortRequest {R : CompWork → Prop} (hR : R s.comp.work) (hself : P s)
    (hrun : ∀ n, R (.aborting n) → s.holds .compressor = true → P (abortGranted n s)) : Answers P .abortRequest s := by
  refine .intro rfl ?_
  revert hR
  induction s.comp.work with
  | aborting n => exact fun hR => ite_keeps (hrun n hR) fun _ => hself
  | _ => exact fun _ => hself

theorem Answers.feedbackFrameSent {R : Option InFlight → Prop} (hR : R s.ltx.inFlight)
    (hself : P s) (hblocked : P (byteSlot s)) (hsent : R (some ⟨.feedback, none⟩) → P (lastByteSent .feedback s)) :
    Answers P .feedbackFrameSent s := by
  refine .intro rfl ?_
  revert hR
  induction s.ltx.st with
  | frame =>
    induction s.ltx.inFlight with
    | none => exact fun _ => hself
    | some fl =>
      induction fl with | mk kind n
      induction kind with
      | feedback =>
        induction n with
        | none => exact fun hR => ite_keeps (fun _ => hblocked) fun _ => hsent hR
        | some _ => exact fun _ => hself
      | _ => exact fun _ => hself
  | _ => exact fun _ => hself

theorem Answers.messageFrameSent {R : CompWork → Prop} (hR : R s.comp.work) (hself : P s)
    (hblocked : P (byteSlot s))
    (hsent : ∀ k, R .sending → P (lastByteSent k (s.setComp { s.comp with work := .idle }))) :
    Answers P .messageFrameSent s := by
  refine .intro rfl ?_
  revert hR
  induction s.ltx.st with
  | frame =>
    induction s.comp.work with
    | sending =>
      induction s.ltx.inFlight with
      | none => exact fun _ => hself
      | some fl => exact fun hR => ite_keeps (fun _ => hblocked) fun _ => hsent fl.kind hR
    | _ => exact fun _ => hself
  | _ => exact fun _ => hself

theorem Answers.sweepVisit {R : Option (BitVec 9) → Prop} (hR : R s.sweep.idx) (hself : P s)
    (hrun : ∀ i, R (some i) → s.holds .sweep = true → P (endVisit i (visit i s))) : Answers P .sweepVisit s := by
  refine .intro rfl ?_
  revert hR
  induction s.sweep.idx with
  | none => exact fun _ => hself
  | some i => exact fun hR => ite_keeps (hrun i hR) fun _ => hself

theorem Answers.walkStep {R : CmdState → Prop} (hR : R s.cu.st) (hself : P s)
    (hrun : ∀ d i, R (.walk d i) → s.holds .command = true → P (endWalkStep d i (retire d i s))) :
    Answers P .walkStep s := by
  refine .intro rfl ?_
  revert hR
  induction s.cu.st with
  | walk d i => exact fun hR => ite_keeps (hrun d i hR) fun _ => hself
  | _ => exact fun _ => hself

theorem Answers.commandTransaction {R : CmdState → Prop} (hR : R s.cu.st) (hself : P s)
    (hrun : ∀ c n d, R (.busy c n d) → s.holds .command = true → P (endTransaction (commandWork c n d s))) :
    Answers P .commandTransaction s := by
  refine .intro rfl ?_
  revert hR
  induction s.cu.st with
  | busy c n d => exact fun hR => ite_keeps (hrun c n d hR) fun _ => hself
  | _ => exact fun _ => hself

end

/-- A host access within some blocks. -/
theorem hostAccess_onlyChanges {bs : List Block} {f : State → State} {s : State}
    (hframe : (keptBlocks bs).Forall (agreeOn · s (f s))) : OnlyChanges bs s (hostAccess f s) :=
  hostAccess_keeps (.refl bs s) (onlyChanges_of_frame bs hframe)

/-- The blocks each row may change; the rows that write a register may change any of `registerBlocks`. -/
noncomputable def changedBlocks (c : Instr) : List Block := by
  induction c with
  | receiveFrame => exact [.lrx, .stats, .host, .stat]
  | expanderFrameTake => exact [.arb, .exp, .lrx, .stats, .host, .stat]
  | expandFull | expandDelta | expandBrief => exact [.store, .arb, .exp, .fbq, .lrx, .stats, .stat]
  | rxEntryWrite => exact [.exp, .lrx, .host]
  | expanderAbandonedGrant => exact [.arb, .exp]
  | ackApply | refreshApply => exact [.store, .arb, .exp, .lrx, .stats, .stat]
  | nextFrameChoice => exact [.arb, .comp, .fbq, .ltx, .host]
  | take | abortRequest => exact [.store, .arb, .comp, .ltx, .stats, .stat]
  | takeAbandonedGrant => exact [.arb, .comp, .ltx, .stats, .stat]
  | feedbackFrameSent | messageFrameSent | ctsNegated | idleFillByte => exact [.pins, .arb, .comp, .ltx, .stats, .stat]
  | ctsAsserted => exact [.pins, .ltx]
  | timerOverflow | lineSilent | statisticsBoundary | singleIncrement | trefTick =>
    exact [.store, .arb, .lrx, .timer, .sweep, .stats, .stat]
  | sweepVisit => exact [.store, .arb, .fbq, .sweep, .stats, .stat]
  | storageError | errorCaptureWrite => exact [.store]
  | startupWalkEnd => exact [.store, .arb, .lrx, .ltx]
  | walkStep => exact [.store, .arb, .fbq, .cu, .stat]
  | commandTransaction => exact [.store, .arb, .fbq, .stats, .cu, .stat]
  | recordWindowWrite => exact [.cu, .stat]
  | receiveEnable => exact [.lrx]
  | transmitEnable => exact [.arb, .comp, .ltx, .stats, .stat]
  | discard | cancel | transmitData => exact [.host]
  | receiveData => exact [.pins, .host, .stat]
  | commit => exact [.host, .stat]
  | tableSelect => exact [.banks]
  | tableDataWrite => exact [.banks, .stat]
  | tableDataRead => exact [.pins, .banks]
  | eventFlagsWrite | alarmsWrite | monitorSelect => exact [.stat]
  | timerTransfer | timerRun => exact [.timer]
  | resetAssert => exact [.pins]
  | resetRelease => exact .pins :: registerBlocks
  | _ => exact registerBlocks

theorem pending_not_mem_changedBlocks (c : Instr) : (changedBlocks c).contains .pending = false := by
  induction c using Instr.casesOn <;> exact Eq.refl false

theorem endExpTransaction_onlyChanges {bs : List Block} (b : Option (Fin 2)) (e : Option RxEntry) {s t : State}
    (h : OnlyChanges bs s t) (hsub : (bs ++ [Block.arb, .exp, .lrx]).all ((changedBlocks .expandFull).contains ·) = true) :
    OnlyChanges (changedBlocks .expandFull) s (endExpTransaction b e t) :=
  h.andThen (onlyChanges_of_frame [.arb, .exp, .lrx] (endExpTransaction_frame b e t)) hsub

theorem endEntry_onlyChanges (b : Option (Fin 2)) (es : List FbEntry) {s t : State}
    (h : OnlyChanges [.store, .stats, .stat] s t) : OnlyChanges (changedBlocks .ackApply) s (endEntry b es t) :=
  h.andThen (onlyChanges_of_frame [.arb, .exp, .lrx] (endEntry_frame b es t)) rfl

theorem expandFull_answers (s : State) : Answers (OnlyChanges (changedBlocks .expandFull) s) .expandFull s :=
  .expandFull (R := fun _ => True) trivial (.refl _ s) fun b _ _ _ _ _ =>
    endExpTransaction_onlyChanges b _ (onlyChanges_of_frame [.store, .fbq, .stats, .stat] (fullTransaction_frame ..)) rfl

theorem expandDelta_answers (s : State) : Answers (OnlyChanges (changedBlocks .expandDelta) s) .expandDelta s :=
  .expandDelta (R := fun _ => True) trivial (.refl _ s) fun b _ _ _ _ _ _ _ =>
    endExpTransaction_onlyChanges b _ (onlyChanges_of_frame [.store, .fbq, .stats, .stat] (deltaTransaction_frame ..)) rfl

theorem expandBrief_answers (s : State) : Answers (OnlyChanges (changedBlocks .expandBrief) s) .expandBrief s :=
  .expandBrief (R := fun _ => True) trivial (.refl _ s) fun b _ _ _ _ =>
    endExpTransaction_onlyChanges b _ (onlyChanges_of_frame [.store, .fbq, .stats, .stat] (briefTransaction_frame ..)) rfl

theorem rxEntryWrite_answers (s : State) : Answers (OnlyChanges (changedBlocks .rxEntryWrite) s) .rxEntryWrite s :=
  .rxEntryWrite (R := fun _ => True) trivial (.refl _ s) fun b e _ =>
    (onlyChanges_of_frame [.host] (pushEntry_frame e s)).andThen
    (onlyChanges_of_frame [.exp, .lrx] (endWork_frame (some b) _)) rfl

theorem expanderAbandonedGrant_answers (s : State) :
    Answers (OnlyChanges (changedBlocks .expanderAbandonedGrant) s) .expanderAbandonedGrant s :=
  ite_keeps (fun _ => (onlyChanges_of_eq [.exp] rfl).andThen
    (onlyChanges_of_frame [.arb] (endTransaction_frame _)) rfl) fun _ => .refl _ s

theorem ackApply_answers (s : State) : Answers (OnlyChanges (changedBlocks .ackApply) s) .ackApply s :=
  .ackApply (R := fun _ => True) trivial (.refl _ s) fun b n es _ =>
    endEntry_onlyChanges b es (onlyChanges_of_frame _ (ackEntry_frame n s))

theorem refreshApply_answers (s : State) : Answers (OnlyChanges (changedBlocks .refreshApply) s) .refreshApply s :=
  .refreshApply (R := fun _ => True) trivial (.refl _ s) fun b n es _ =>
    endEntry_onlyChanges b es (onlyChanges_of_frame _ (refreshEntry_frame n s))

theorem take_answers (s : State) : Answers (OnlyChanges (changedBlocks .take) s) .take s :=
  .take (R := fun _ => True) trivial (.refl _ s) fun m f fate _ _ =>
    onlyChanges_of_frame _ (takeGranted_frame m f fate s)

theorem takeAbandonedGrant_answers (s : State) :
    Answers (OnlyChanges (changedBlocks .takeAbandonedGrant) s) .takeAbandonedGrant s :=
  .takeAbandonedGrant (R := fun _ => True) trivial (.refl _ s) fun _ _ _ _ =>
    (onlyChanges_of_frame [.arb] (endTransaction_frame s)).andThen
    ((onlyChanges_of_frame [.ltx, .stats, .stat] (countAborted_frame _)).andThen
      (onlyChanges_of_frame [.arb, .comp, .ltx] (answerAbandoned_frame none _)) (ds := changedBlocks .takeAbandonedGrant) rfl) rfl

theorem feedbackFrameSent_answers (s : State) : Answers (OnlyChanges (changedBlocks .feedbackFrameSent) s) .feedbackFrameSent s :=
  .feedbackFrameSent (R := fun _ => True) trivial (.refl _ s) (onlyChanges_of_frame _ (byteSlot_frame s)) fun _ =>
    (onlyChanges_of_frame [.pins, .ltx, .stats] (lastByteSent_frame _ s)).mono rfl

theorem messageFrameSent_answers (s : State) : Answers (OnlyChanges (changedBlocks .messageFrameSent) s) .messageFrameSent s :=
  .messageFrameSent (R := fun _ => True) trivial (.refl _ s) (onlyChanges_of_frame _ (byteSlot_frame s)) fun k _ =>
    (onlyChanges_of_eq [.comp] rfl).andThen (onlyChanges_of_frame [.pins, .ltx, .stats] (lastByteSent_frame k _)) rfl

theorem ctsNegated_answers (s : State) : Answers (OnlyChanges (changedBlocks .ctsNegated) s) .ctsNegated s := by
  have hpin : OnlyChanges [.pins] s (setCts false s) := onlyChanges_setPins _ s
  exact ite_keeps (fun _ => hpin.andThen
    (onlyChanges_of_frame [.arb, .comp, .ltx, .stats, .stat] (abandonFrame_frame _)) rfl) fun _ => hpin.mono rfl

theorem abortRequest_answers (s : State) : Answers (OnlyChanges (changedBlocks .abortRequest) s) .abortRequest s :=
  .abortRequest (R := fun _ => True) trivial (.refl _ s) fun n _ _ =>
    onlyChanges_of_frame _ (abortGranted_frame n s)

theorem statisticsBoundary_answers (s : State) :
    Answers (OnlyChanges (changedBlocks .statisticsBoundary) s) .statisticsBoundary s :=
  ite_keeps (fun _ =>
    ((onlyChanges_of_frame [.timer] (reloadTimer_frame s)).trans
      (onlyChanges_of_frame [.store, .stats, .stat] (boundaryPeriod_frame _))).andThen
      ((onlyChanges_of_frame [.arb, .sweep, .stats, .stat] (sweepPeriod_frame _)).andThen
        (onlyChanges_of_frame [.lrx, .stat] (silencePeriod_frame _)) (ds := changedBlocks .trefTick) rfl) rfl) fun _ => .refl _ s

theorem sweepVisit_answers (s : State) : Answers (OnlyChanges (changedBlocks .sweepVisit) s) .sweepVisit s :=
  .sweepVisit (R := fun _ => True) trivial (.refl _ s) fun i _ _ =>
    (onlyChanges_of_frame [.store, .fbq, .stats, .stat] (visit_frame i s)).andThen
    (onlyChanges_of_frame [.arb, .sweep] (endVisit_frame i _)) rfl

theorem startupWalkEnd_answers (s : State) : Answers (OnlyChanges (changedBlocks .startupWalkEnd) s) .startupWalkEnd s :=
  ite_keeps (fun _ => ((onlyChanges_of_eq [.store] rfl).trans (onlyChanges_of_frame [.lrx] (startReceiver_frame _))).andThen
    ((onlyChanges_of_frame [.ltx] (startTransmitter_frame _)).andThen
      (onlyChanges_of_frame [.arb] (arbitrate_frame _)) (ds := changedBlocks .startupWalkEnd) rfl) rfl) fun _ => .refl _ s

theorem walkStep_answers (s : State) : Answers (OnlyChanges (changedBlocks .walkStep) s) .walkStep s :=
  .walkStep (R := fun _ => True) trivial (.refl _ s) fun d i _ _ =>
    (onlyChanges_of_frame [.store, .fbq, .stat] (retire_frame d i s)).andThen
    (onlyChanges_of_frame [.arb, .cu, .stat] (endWalkStep_frame d i _)) rfl

theorem commandTransaction_answers (s : State) :
    Answers (OnlyChanges (changedBlocks .commandTransaction) s) .commandTransaction s :=
  .commandTransaction (R := fun _ => True) trivial (.refl _ s) fun c n d _ _ =>
    (onlyChanges_of_frame [.store, .fbq, .stats, .cu, .stat] (commandWork_frame c n d s)).andThen
      (onlyChanges_of_frame [.arb] (endTransaction_frame _)) rfl

theorem expanderFrameTake_answers (s : State) : Answers (OnlyChanges (changedBlocks .expanderFrameTake) s) .expanderFrameTake s :=
  onlyChanges_of_frame _ (expanderTake_frame s)

theorem nextFrameChoice_answers (s : State) : Answers (OnlyChanges (changedBlocks .nextFrameChoice) s) .nextFrameChoice s :=
  ite_keeps (fun _ => onlyChanges_of_frame (changedBlocks .nextFrameChoice) (startFrame_frame s)) fun _ => .refl _ s

theorem ctsAsserted_answers (s : State) : Answers (OnlyChanges (changedBlocks .ctsAsserted) s) .ctsAsserted s :=
  (onlyChanges_setPins _ s).andThen (onlyChanges_of_frame [.ltx] (leaveHeld_frame _)) rfl

theorem advance_within {p : Prop} [Decidable p] (s : State) :
    OnlyChanges (changedBlocks .trefTick) s (if p then advance s else s) :=
  ite_keeps (fun _ => onlyChanges_of_frame _ (advance_frame s)) fun _ => .refl _ s

theorem idleFillByte_answers (s : State) : Answers (OnlyChanges (changedBlocks .idleFillByte) s) .idleFillByte s :=
  onlyChanges_of_frame _ (byteSlot_frame s)

theorem resetRelease_answers (s : State) : Answers (OnlyChanges (changedBlocks .resetRelease) s) .resetRelease s :=
  onlyChanges_of_eq _ rfl

theorem singleIncrement_answers (s : State) : Answers (OnlyChanges (changedBlocks .singleIncrement) s) .singleIncrement s :=
  hostAccess_onlyChanges (singleIncrement_frame s)

theorem receiveData_answers (s : State) : Answers (OnlyChanges (changedBlocks .receiveData) s) .receiveData s :=
  ite_keeps (fun _ => (onlyChanges_setPins _ s).mono rfl) fun _ =>
    (onlyChanges_setPins _ s).andThen (onlyChanges_of_frame [.host, .stat] (readEntryWord_frame _)) rfl

theorem tableDataRead_answers (s : State) : Answers (OnlyChanges (changedBlocks .tableDataRead) s) .tableDataRead s :=
  ite_keeps (fun _ => (onlyChanges_setPins _ s).mono rfl) fun _ =>
    (onlyChanges_setPins _ s).andThen (advancePointer_onlyChanges _) rfl

/-- Every command answers a next state, within the command's blocks. -/
theorem exec_answers (c : Instr) (s : State) : Answers (OnlyChanges (changedBlocks c) s) c s := by
  induction c with
  | receiveFrame bytes => exact onlyChanges_of_frame _ (receiveBytes_frame bytes s)
  | expanderFrameTake => exact expanderFrameTake_answers s
  | expandFull => exact expandFull_answers s
  | expandDelta => exact expandDelta_answers s
  | expandBrief => exact expandBrief_answers s
  | rxEntryWrite => exact rxEntryWrite_answers s
  | expanderAbandonedGrant => exact expanderAbandonedGrant_answers s
  | ackApply => exact ackApply_answers s
  | refreshApply => exact refreshApply_answers s
  | nextFrameChoice => exact nextFrameChoice_answers s
  | take => exact take_answers s
  | takeAbandonedGrant => exact takeAbandonedGrant_answers s
  | feedbackFrameSent => exact feedbackFrameSent_answers s
  | messageFrameSent => exact messageFrameSent_answers s
  | ctsNegated => exact ctsNegated_answers s
  | ctsAsserted => exact ctsAsserted_answers s
  | abortRequest => exact abortRequest_answers s
  | timerOverflow | lineSilent | trefTick => exact advance_within s
  | statisticsBoundary => exact statisticsBoundary_answers s
  | sweepVisit => exact sweepVisit_answers s
  | storageError dir n bits => cases dir <;> exact onlyChanges_setStore _ s
  | startupWalkEnd => exact startupWalkEnd_answers s
  | walkStep => exact walkStep_answers s
  | commandTransaction => exact commandTransaction_answers s
  | idleFillByte => exact idleFillByte_answers s
  | resetAssert => exact onlyChanges_setPins _ s
  | resetRelease => exact resetRelease_answers s
  | receiveEnable on => exact hostAccess_onlyChanges (writeReceiveEnable_frame on s)
  | transmitEnable on => exact hostAccess_onlyChanges (writeTransmitEnable_frame on s)
  | discard => exact hostAccess_onlyChanges (discardEntry_frame s)
  | cancel => exact hostAccess_onlyChanges (clearBuild_frame s)
  | transmitData w => exact hostAccess_onlyChanges (writeWord_frame w s)
  | commit w => exact hostAccess_onlyChanges (commitMessage_frame _ s)
  | tableSelect w => exact hostAccess_onlyChanges (selectTable_frame w s)
  | tableDataWrite w => exact hostAccess_onlyChanges (writeTable_frame w s)
  | errorCaptureWrite w => exact hostAccess_onlyChanges (emptyCapture_frame s)
  | eventFlagsWrite w => exact hostAccess_onlyChanges (clearEvents_frame w s)
  | alarmsWrite w => exact hostAccess_onlyChanges (clearLatches_frame w s)
  | monitorSelect w => exact hostAccess_onlyChanges (selectMonitor_frame w s)
  | recordWindowWrite i w => exact hostAccess_onlyChanges (writeWindow_frame i w s)
  | timerTransfer => exact hostAccess_onlyChanges (reloadTimer_frame s)
  | singleIncrement => exact singleIncrement_answers s
  | timerRun on => exact hostAccess_onlyChanges (writeRun_frame on s)
  | configurationWrite a w => exact hostAccess_keeps (OnlyChanges.refl _ s) (writeRegister_onlyChanges a w s)
  | receiveData => exact receiveData_answers s
  | tableDataRead => exact tableDataRead_answers s
  | _ => exact hostAccess_keeps (OnlyChanges.refl _ s) (commandWrite_onlyChanges _ s)

theorem exec_onlyChanges {c : Instr} {s t : State} (h : exec c s = .next t) : OnlyChanges (changedBlocks c) s t :=
  (exec_answers c s).of_next h

/-! ## Invariants carried over a step -/

/-- What every command keeps every step keeps, when it does not speak of the queue. -/
theorem step_keeps {P : State → Prop} (hqueue : ∀ s v, P s → P (s.setPending v))
    (hexec : ∀ c s t, P s → exec c s = .next t → P t) {s t : State} (h : P s) (hstep : step s = .next t) : P t := by
  revert hstep
  unfold step
  induction s.pending with
  | nil => exact fun hstep => Host.Outcome.next.inj hstep ▸ h
  | cons c rest => exact hexec c _ t (hqueue s rest h)

/-! ## Rows by what they answer -/

theorem exec_next_of_eq {c : Instr} {s t u : State} (hexec : exec c s = .next u) (hu : u = t) : exec c s = .next t :=
  hexec.trans (congrArg Host.Outcome.next hu)

theorem exists_next {c : Instr} {s t u : State} {Q : State → Prop} (hexec : exec c s = .next u) (hu : u = t) (hQ : let t := t; Q t) :
    ∃ t, exec c s = .next t ∧ Q t := ⟨t, exec_next_of_eq hexec hu, hQ⟩

/-! ## Open host accesses -/

/-- A host row on an open block does its access. -/
theorem exists_next_of_hostOpen {s : State} (hopen : HostOpen s) {c : Instr} {f : State → State} {Q : State → Prop}
    (hexec : exec c s = .next (hostAccess f s)) (hQ : let t := f s; Q t) : ∃ t, exec c s = .next t ∧ Q t :=
  ⟨f s, hexec.trans (congrArg Host.Outcome.next (hostAccess_of_hostOpen hopen f)), hQ⟩

/-! ## The obligations -/

/-- Settles O1: the queue's front is taken off and run on the state with the rest. -/
theorem frontCommandIsRun : Obligations.FrontCommandIsRun := fun _ _ => rfl

/-- Settles O2. -/
theorem emptyQueueIdles : Obligations.EmptyQueueIdles := by
  intro s hempty
  rw [step, hempty]

/-- Settles O3: no command's blocks hold the queue. -/
theorem everyCommandAnswersNext : Obligations.EveryCommandAnswersNext := by
  intro c s
  obtain ⟨t, hexec, hframe⟩ := (exec_answers c s).exists_next
  exact ⟨t, hexec, hframe.same .pending (pending_not_mem_changedBlocks c)⟩

end Sys2Proof.Machine

/-! PROOFS. The transactions of FULL, DELTA and BRIEF frames and the visits of the Age Sweep, each by the cases of its record; the
feedback queue stays sound. -/

namespace Sys2Proof.Machine

/-! ## The transaction of a FULL frame (04 R67 to R69) -/

/-- The contents a stored FULL frame leaves, by the record it finds (04 R68, R69). -/
noncomputable def storedOver (r : Record RxState) (h : Header) (stride : Half) : Contents :=
  { key := h.key, seq := h.seq, time := h.time, stride := stride, tally := 0, age := 0, pinned := r.st.keyed && r.c.pinned
    uses := if r.st.keyed && decide (r.c.key = h.key) then r.c.uses else 0 }

/-- The entry of a stored FULL frame, by the record it finds (04 R69). -/
noncomputable def storedEntry (r : Record RxState) (n : Ctx) (h : Header) (p : List Byte) : RxEntry :=
  { plainEntry .full n h p with
    isNew := decide (r.st = .free)
    replaced := r.st.keyed && !decide (r.c.key = h.key)
    restored := decide (r.st = .damaged) || (decide (r.st = .lost) && decide (r.c.key = h.key)) }

/-- The transaction of a FULL frame after its checked read, which left `u`. -/
theorem fullTransaction_eq (n : Ctx) (h : Header) (stride : Half) (p : List Byte) (s : State) :
    fullTransaction n h stride p s =
      let u := raise .expFull (readRx .expander n s)
      let r := u.rxRec n
      if r.st = .free ∧ u.store.st = .degraded then (u, { plainEntry .full n h p with notStored := true })
      else
        let v := writeRx n .live (storedOver r h stride) u
        (offerAck n (if r.st = .free then raise .ctxCreatedRx v else v), storedEntry r n h p) := by
  unfold fullTransaction
  generalize raise .expFull (readRx .expander n s) = u
  dsimp only
  generalize u.rxRec n = r
  induction r with | mk st c flips
  dsimp only [storedOver, storedEntry]
  generalize instDecidableEqStoreState u.store.st .degraded = dstore
  generalize instDecidableEqKey c.key h.key = dkey
  induction st with
  | free => induction dstore with
    | isTrue _ => exact rfl
    | isFalse _ => exact rfl
  | damaged => exact rfl
  | _ => induction dkey with
    | isTrue _ => exact rfl
    | isFalse _ => exact rfl

/-- A FULL frame is not stored, or stored and acknowledged. -/
theorem fullTransaction_cases {P : State → Prop} (n : Ctx) (h : Header) (stride : Half) (p : List Byte) (s : State)
    (hread : P (raise .expFull (readRx .expander n s)))
    (hstored : ∀ st c, let u := raise .expFull (readRx .expander n s)
      (st = .free → u.store.st ≠ .degraded) → (u.rxRec n).st = st →
        P (offerAck n (if st = .free then raise .ctxCreatedRx (writeRx n .live c u) else writeRx n .live c u))) :
    P (fullTransaction n h stride p s).1 := by
  rw [fullTransaction_eq]
  exact ite_keeps (P := fun x : State × RxEntry => P x.1) (fun _ => hread) fun hnot => hstored _ _ (fun hst hdeg => hnot ⟨hst, hdeg⟩) rfl

end Sys2Proof.Machine

/-! PROOFS. The Interval Timer, the end of the start-up walk, the ring of the arbiter. -/

namespace Sys2Proof.Machine

/-! ## The timer (09 R140, R141) -/

theorem advance_of_ne {s : State} (h : s.timer.count ≠ 0xFFFFFFFF#32) :
    advance s = s.setTimer { s.timer with count := s.timer.count + 1 } := if_neg h

theorem not_overflows {s : State} (h : s.timer.run = false) : ¬ s.overflows = true := by
  unfold State.overflows
  rw [h]
  exact Bool.false_ne_true

/-- A host action does nothing to the block when its access does nothing. -/
theorem hostAccess_of_eq {f : State → State} {s : State} (h : f s = s) : hostAccess f s = s :=
  hostAccess_keeps (P := fun t => t = s) rfl h

/-- Settles O37: each row by its test of the run flag and of the count. -/
theorem timerCounts : Obligations.TimerCounts := by
  intro s
  refine ⟨fun hrun hcount => ?tick, fun hstop => ⟨exec_next_of_eq rfl (if_neg (ne_true_of_eq_false hstop)), exec_next_of_eq rfl (if_neg (not_overflows hstop))⟩,
    fun hopen hstop hcount => ?increment, fun hrun => exec_next_of_eq rfl (hostAccess_of_eq (if_pos hrun)),
    fun hopen => exists_next_of_hostOpen hopen rfl (by intro t; exact ⟨rfl, onlyChanges_of_eq [.timer] rfl⟩),
    fun on hopen => exists_next_of_hostOpen hopen rfl (by intro t; exact ⟨rfl, onlyChanges_of_eq [.timer] rfl⟩)⟩
  case tick => exact exists_next rfl ((if_pos hrun).trans (advance_of_ne hcount)) (by intro t; exact ⟨rfl, onlyChanges_of_eq [.timer] rfl⟩)
  case increment =>
    have hone : singleIncrement s = s.setTimer { s.timer with count := s.timer.count + 1 } :=
      (if_neg (ne_true_of_eq_false hstop)).trans (advance_of_ne hcount)
    exact exists_next rfl ((hostAccess_of_hostOpen hopen _).trans hone) (by intro t; exact ⟨rfl, onlyChanges_of_eq [.timer] rfl⟩)

/-! ## The end of the start-up walk (03 R57) -/

theorem and_and_iff_of_right {a b c : Prop} (h : c) : a ∧ b ∧ c ↔ a ∧ b :=
  ⟨fun hall => ⟨hall.1, hall.2.1⟩, fun hab => ⟨hab.1, hab.2, h⟩⟩

theorem startReceiver_of_running {s : State} (h : s.store.st ≠ .starting) : startReceiver s =
    if s.lrx.enable = true ∧ s.lrx.st = .disabled then enterHunt s else s :=
  if_congr (and_and_iff_of_right h) rfl rfl

theorem startTransmitter_of_running {s : State} (h : s.store.st ≠ .starting) : startTransmitter s =
    if s.ltx.enable = true ∧ s.ltx.st = .disabled then s.setLtx { s.ltx with st := .idle, gap := 0, alt := false } else s :=
  if_congr (and_and_iff_of_right h) rfl rfl

theorem arbitrate_arb_of_running {s : State} (h : s.store.st ≠ .starting) :
    (arbitrate s).arb = s.arb.grant s.store.heldUncorrected := congrArg State.arb (if_neg h)

/-- Settles O43: the store made READY, then the two line sides, then the arbiter. -/
theorem startupWalkEnds : Obligations.StartupWalkEnds := by
  intro s hstarting
  let ready := s.setStore { s.store with st := .ready }
  have hready : ready.store.st ≠ .starting := nofun
  have hrx := onlyChanges_of_frame [.lrx] (startReceiver_frame ready)
  have htx := onlyChanges_of_frame [.ltx] (startTransmitter_frame (startReceiver ready))
  have hlines := hrx.trans htx
  have harb := onlyChanges_of_frame [.arb] (arbitrate_frame (startTransmitter (startReceiver ready)))
  have hstore : (startTransmitter (startReceiver ready)).store = ready.store := hlines.same .store rfl
  refine ⟨_, congrArg Host.Outcome.next (if_pos hstarting), (harb.same .store rfl).trans hstore, ?arb, ?lrx, ?ltx,
    (onlyChanges_of_eq [.store] rfl).andThen (hlines.trans harb) rfl⟩
  case arb =>
    refine (arbitrate_arb_of_running (hstore ▸ hready)).trans ?_
    have hwaits : (startTransmitter (startReceiver ready)).arb = s.arb := hlines.same .arb rfl
    exact (congrArg₂ (fun (a : Arbiter) (t : Store) => a.grant t.heldUncorrected) hwaits hstore :)
  case lrx =>
    refine ((htx.trans harb).same .lrx rfl).trans ?_
    exact (congrArg State.lrx (startReceiver_of_running hready)).trans (apply_ite State.lrx _ _ _)
  case ltx =>
    have hltx : (startReceiver ready).ltx = ready.ltx := hrx.same .ltx rfl
    have hrunning : (startReceiver ready).store.st ≠ .starting := (hrx.same .store rfl : _ = ready.store) ▸ hready
    refine (harb.same .ltx rfl).trans ?_
    refine ((congrArg State.ltx (startTransmitter_of_running hrunning)).trans (apply_ite State.ltx _ _ _)).trans ?_
    exact congrArg (fun l : LineTx =>
      if l.enable = true ∧ l.st = .disabled then { l with st := .idle, gap := 0, alt := false } else l) hltx

end Sys2Proof.Machine

/-! PROOFS. The ring of the store arbiter. -/

namespace Sys2Proof.Machine

/-! ## The ring of the arbiter (03 R46) -/

theorem grant_of_granted {a : Arbiter} (h : a.granted ≠ none) (held : Bool) : a.grant held = a := by
  unfold Arbiter.grant
  cases hg : a.granted with
  | none => exact absurd hg h
  | some _ => rfl

theorem grant_of_find {a : Arbiter} {q : Requester} (hfree : a.granted = none)
    (hfind : (ringAfter a.last).find? a.waits = some q) (held : Bool) :
    a.grant held = { a.setWait false q with granted := some q, last := q, tested := held } := by
  simp only [Arbiter.grant, hfree, hfind]

theorem grant_of_none_waiting {a : Arbiter} (hfree : a.granted = none) (hwaits : ∀ q, a.waits q = false) (held : Bool) :
    a.grant held = a := by
  have hfind : (ringAfter a.last).find? a.waits = none := List.find?_eq_none.mpr fun q _ => ne_true_of_eq_false (hwaits q)
  simp only [Arbiter.grant, hfree, hfind]

theorem Requester.mem_ring (q l : Requester) : q ∈ ringAfter l := by
  induction q <;> induction l <;> decide

/-- The first waiting requester of the ring is the one the fewest places after the last granted. -/
theorem find?_ring_nearest : ∀ l ∈ ringAfter .sweep, ∀ q ∈ ringAfter .sweep, ∀ e c u w : Bool,
    let a : Arbiter := ⟨e, c, u, w, none, l, false⟩
    a.waits q = true → (∀ p ∈ ringAfter .sweep, a.waits p = true → q.code - l.code - 1 ≤ p.code - l.code - 1) →
      (ringAfter l).find? a.waits = some q := by
  decide

/-- Settles O42: the ring is searched from the place after the last granted. -/
theorem arbiterGrantsInRingOrder : Obligations.ArbiterGrantsInRingOrder := by
  refine ⟨rfl, fun s q => ⟨fun hst => ⟨(request_arb q s).trans (if_pos hst), (endTransaction_arb s).trans (if_pos hst)⟩,
    fun hst => ⟨(request_arb q s).trans (if_neg hst), (endTransaction_arb s).trans (if_neg hst)⟩,
    s.store.heldUncorrected_iff⟩, fun a held => ⟨fun h => grant_of_granted h held,
    fun hfree hwaits => grant_of_none_waiting hfree hwaits held, fun hfree q hq hnearest => ?nearest, fun hfree hsome => ?some⟩⟩
  case nearest =>
    refine grant_of_find hfree ?_ held
    exact find?_ring_nearest a.last (Requester.mem_ring ..) q (Requester.mem_ring ..) a.wExp a.wComp a.wCmd a.wSweep hq
      fun p _ => hnearest p
  case some =>
    obtain ⟨q, hq⟩ := hsome
    cases hfind : (ringAfter a.last).find? a.waits with
    | none => exact absurd hq (List.find?_eq_none.mp hfind q (Requester.mem_ring ..))
    | some p => exact ⟨p, List.find?_some hfind, congrArg Arbiter.granted (grant_of_find hfree hfind held)⟩

end Sys2Proof.Machine

/-! PROOFS. A period: what reaches the Age Sweep, the boundary counter and the silence counter. -/

namespace Sys2Proof.Machine

/-! ## A period at the Age Sweep (09 R143) -/

theorem sweepPeriod_of_idle {s : State} (h : s.sweep.idx = none) :
    sweepPeriod s = request .sweep (s.setSweep { s.sweep with idx := some 0 }) := by
  unfold sweepPeriod
  rw [h]

theorem sweepPeriod_of_running {s : State} {i : BitVec 9} (h : s.sweep.idx = some i) : sweepPeriod s =
    if s.sweep.pend < 3 then s.setSweep { s.sweep with pend := s.sweep.pend + 1 }
    else setEvent .sweepOverrun (raise .sweepOverrun s) := by
  unfold sweepPeriod
  rw [h]

/-- An idle sweep starts and asks for its first transaction. -/
theorem sweepPeriod_sweep_arb_of_idle {s : State} (h : s.sweep.idx = none) :
    (sweepPeriod s).sweep = { s.sweep with idx := some 0 } ∧ (sweepPeriod s).arb = s.arb.asked s.store .sweep := by
  rw [sweepPeriod_of_idle h]
  exact ⟨(onlyChanges_of_frame [.arb] (request_frame ..)).same .sweep rfl, request_arb ..⟩

/-- A running sweep keeps up to three ticks. -/
theorem sweepPeriod_sweep_arb_of_running {s : State} {i : BitVec 9} (h : s.sweep.idx = some i) :
    (sweepPeriod s).sweep = { s.sweep with pend := if s.sweep.pend = 3 then 3 else s.sweep.pend + 1 } ∧
      (sweepPeriod s).arb = s.arb := by
  rw [sweepPeriod_of_running h]
  by_cases hpend : s.sweep.pend = 3
  · have hfull : ¬ s.sweep.pend < 3 := by rw [hpend]; decide
    rw [if_neg hfull, if_pos hpend]
    exact ⟨congrArg (Sweep.mk s.sweep.idx) hpend, rfl⟩
  · have hroom : s.sweep.pend < 3 := BitVec.not_le.mp fun hle => hpend ((Sweep.three_le_iff _).mp hle)
    rw [if_pos hroom, if_neg hpend]
    exact ⟨rfl, rfl⟩

/-- The overrun a period counts and latches (09 R143). -/
noncomputable def State.sweepOverruns (s : State) : Bool := s.sweep.idx.isSome && decide (s.sweep.pend = 3)

theorem sweepPeriod_onlyChanges (s : State) : OnlyChanges [.arb, .sweep, .stats, .stat] s (sweepPeriod s) :=
  onlyChanges_of_frame _ (sweepPeriod_frame s)

theorem boundaryPeriod_onlyChanges (s : State) : OnlyChanges [.store, .stats, .stat] s (boundaryPeriod s) :=
  onlyChanges_of_frame _ (boundaryPeriod_frame s)

theorem silencePeriod_onlyChanges (s : State) : OnlyChanges [.lrx, .stat] s (silencePeriod s) :=
  onlyChanges_of_frame _ (silencePeriod_frame s)

/-! ## Whether a period makes a boundary and sets the silence alarm -/

theorem boundaryReached_congr {s t : State} (hcfg : t.cfg = s.cfg) (hcount : t.stats.boundary = s.stats.boundary) :
    t.boundaryReached = s.boundaryReached := by
  unfold State.boundaryReached
  rw [hcfg, hcount]

theorem boundaryReached_sweepPeriod (s : State) : (sweepPeriod s).boundaryReached = s.boundaryReached :=
  boundaryReached_congr ((sweepPeriod_onlyChanges s).same .cfg rfl) (sweepPeriod_stats s ▸ (Stats.counted_boundary _ _).1)

theorem silenceReached_congr {s t : State} (hcfg : t.cfg = s.cfg) (hlrx : t.lrx = s.lrx)
    (hsilent : t.stat.silent = s.stat.silent) : t.silenceReached = s.silenceReached := by
  unfold State.silenceReached
  rw [hcfg, hlrx, hsilent]

theorem boundaryPeriod_silent (s : State) : (boundaryPeriod s).stat.silent = s.stat.silent := by
  rw [boundaryPeriod_stat]
  exact ite_keeps (P := fun u : StatusUnit => u.silent = _) (fun _ => rfl) fun _ => rfl

theorem sweepPeriod_silent (s : State) : (sweepPeriod s).stat.silent = s.stat.silent := by
  rw [sweepPeriod_stat]
  rfl

/-! ## A whole period (09 R142) -/

theorem advance_of_eq {s : State} (h : s.timer.count = 0xFFFFFFFF#32) : advance s = period (reloadTimer s) := if_pos h

theorem exec_overflow {s : State} {i : Instr} (hcount : s.timer.count = 0xFFFFFFFF#32)
    (hrow : (s.timer.run = true ∧ (i = .timerOverflow ∨ i = .trefTick)) ∨
      (HostOpen s ∧ s.timer.run = false ∧ i = .singleIncrement)) : exec i s = .next (period (reloadTimer s)) := by
  rw [← advance_of_eq hcount]
  rcases hrow with ⟨hrun, rfl | rfl⟩ | ⟨hopen, hstop, rfl⟩
  · refine congrArg Host.Outcome.next (if_pos ?_)
    unfold State.overflows
    rw [hrun, hcount]
    rfl
  · exact congrArg Host.Outcome.next (if_pos hrun)
  · exact congrArg Host.Outcome.next ((hostAccess_of_hostOpen hopen _).trans (if_neg (ne_true_of_eq_false hstop)))

theorem period_onlyChanges (s : State) : OnlyChanges [.store, .arb, .lrx, .sweep, .stats, .stat] s (period s) :=
  onlyChanges_of_frame _ (period_frame s)

/-- The boundary counter and the silence counter leave the sweep and its request. -/
theorem period_sweep_arb (s : State) : (period s).sweep = (sweepPeriod s).sweep ∧ (period s).arb = (sweepPeriod s).arb :=
  have hrest := (boundaryPeriod_onlyChanges (sweepPeriod s)).trans (silencePeriod_onlyChanges _)
  ⟨hrest.same .sweep rfl, hrest.same .arb rfl⟩

/-- Counting raises live counters alone. -/
theorem Stats.counted_eq (ks : List Counter) (t : Stats) : t.counted ks = { t with live := (t.counted ks).live } := by
  obtain ⟨hboundary, hsnap, hsel, hselSnap⟩ := Stats.counted_boundary ks t
  rw [← hboundary, ← hsnap, ← hsel, ← hselSnap]

/-- The overrun is counted before the boundary is taken. -/
theorem period_stats (s : State) : (period s).stats =
    let counted := s.stats.counted (if s.sweepOverruns then [.sweepOverrun] else [])
    if s.boundaryReached then { s.stats with snap := counted.live, live := Vector.replicate 30 0, boundary := 0 }
    else { counted with boundary := if s.cfg.statLimit = 0 then 0 else s.stats.boundary + 1 } := by
  have hcfg : (sweepPeriod s).cfg = s.cfg := (sweepPeriod_onlyChanges s).same .cfg rfl
  have hstats : (sweepPeriod s).stats = s.stats.counted (if s.sweepOverruns then [.sweepOverrun] else []) :=
    sweepPeriod_stats s
  refine ((silencePeriod_onlyChanges _).same .stats rfl).trans ((boundaryPeriod_stats _).trans ?_)
  rw [boundaryReached_sweepPeriod, hstats, hcfg, Stats.counted_eq]

theorem period_store (s : State) :
    (period s).store = if s.boundaryReached then { s.store with uncorr := 0 } else s.store := by
  refine ((silencePeriod_onlyChanges _).same .store rfl).trans ((boundaryPeriod_store _).trans ?_)
  rw [boundaryReached_sweepPeriod, ((sweepPeriod_onlyChanges s).same .store rfl : (sweepPeriod s).store = s.store)]

theorem period_lrx (s : State) :
    (period s).lrx = if s.lrx.st = .disabled then s.lrx else { s.lrx with silence := satInc s.lrx.silence } := by
  refine (silencePeriod_lrx _).trans ?_
  have hlrx : (boundaryPeriod (sweepPeriod s)).lrx = s.lrx :=
    ((sweepPeriod_onlyChanges s).trans (boundaryPeriod_onlyChanges _)).same .lrx rfl
  rw [hlrx]

theorem period_stat (s : State) : (period s).stat =
    { s.stat.latched ((if s.sweepOverruns then [.sweepOverrun] else []) ++ if s.boundaryReached then [.period] else []) with
      silent := if s.silenceReached then ⟨true, true⟩ else s.stat.silent } := by
  have hframe := (sweepPeriod_onlyChanges s).trans (boundaryPeriod_onlyChanges _)
  have hsilence : (boundaryPeriod (sweepPeriod s)).silenceReached = s.silenceReached :=
    silenceReached_congr (hframe.same .cfg rfl) (hframe.same .lrx rfl)
      ((boundaryPeriod_silent _).trans (sweepPeriod_silent s))
  refine (silencePeriod_stat _).trans ?_
  rw [hsilence, boundaryPeriod_stat, boundaryReached_sweepPeriod, sweepPeriod_stat, State.sweepOverruns,
    ← StatusUnit.latched_latched]
  induction s.boundaryReached <;> induction s.silenceReached <;> rfl

theorem boundaryReached_eq_decide (s : State) : s.boundaryReached =
    decide (s.cfg.statLimit ≠ 0 ∧ s.cfg.statLimit.toNat ≤ s.stats.boundary.toNat + 1) := (Bool.decide_and _ _).symm

theorem silenceReached_eq_decide (s : State) : s.silenceReached = decide (s.lrx.st ≠ .disabled ∧ s.cfg.tSilent ≠ 0 ∧
    s.stat.silent.live = false ∧ s.cfg.tSilent ≤ satInc s.lrx.silence) := by
  simp only [State.silenceReached, Bool.decide_and, Bool.and_assoc, Bool.decide_eq_false]

/-- Settles O38: each row overflows into one period, whose parts reach their blocks one after another. -/
theorem periodReachesItsBlocks : Obligations.PeriodReachesItsBlocks := by
  intro s i hcount hrow overrun counted reached silent
  have hreached : (reloadTimer s).boundaryReached = reached := boundaryReached_eq_decide s
  have hsilent : (reloadTimer s).silenceReached = silent := silenceReached_eq_decide s
  obtain ⟨hsweep, harb⟩ := period_sweep_arb (reloadTimer s)
  have hstats := period_stats (reloadTimer s)
  have hstore := period_store (reloadTimer s)
  rw [hreached] at hstats hstore
  have hframe := period_onlyChanges (reloadTimer s)
  refine ⟨_, exec_overflow hcount hrow, hframe.same .timer rfl,
    (onlyChanges_of_frame [.timer] (reloadTimer_frame s)).andThen hframe rfl, fun hidle => ?idle, fun j hj => ?running,
    fun h => ⟨hstats.trans (if_pos h), hstore.trans (if_pos h)⟩,
    fun h => ⟨hstore.trans (if_neg (ne_true_of_eq_false h)), hstats.trans (if_neg (ne_true_of_eq_false h))⟩,
    hreached ▸ hsilent ▸ period_stat (reloadTimer s), period_lrx (reloadTimer s)⟩
  case idle =>
    obtain ⟨hidx, hasked⟩ := sweepPeriod_sweep_arb_of_idle (s := reloadTimer s) hidle
    exact ⟨hsweep.trans hidx, harb.trans hasked⟩
  case running =>
    obtain ⟨hpend, hkept⟩ := sweepPeriod_sweep_arb_of_running (s := reloadTimer s) hj
    exact ⟨harb.trans hkept, hsweep.trans hpend⟩

end Sys2Proof.Machine

/-! PROOFS. The alarm and the boundary as overflowing ticks: what the two orders of a boundary and a sweep overrun have in common. -/

namespace Sys2Proof.Machine

theorem agreeOn.trans_symm {b : Block} {s t u : State} (ht : agreeOn b s t) (hu : agreeOn b s u) : agreeOn b u t := by
  induction b <;> exact (Eq.trans ht (Eq.symm hu) :)

/-- Two states reached from one within the same blocks agree on the others. -/
theorem OnlyChanges.merge {bs : List Block} {s t u : State} (ht : OnlyChanges bs s t) (hu : OnlyChanges bs s u) :
    OnlyChanges bs u t := fun b hb => (ht b hb).trans_symm (hu b hb)

theorem StatusUnit.latched_comm (es : List Event) (e : Event) (u : StatusUnit) :
    (u.latched [e]).latched es = (u.latched es).latched [e] := by
  induction es generalizing u with
  | nil => rfl
  | cons f es ih =>
    have hswap : (u.latched [e]).latched [f] = (u.latched [f]).latched [e] :=
      congrArg (fun v => { u with events := v }) ((BitVec.or_assoc ..).trans
        ((congrArg (u.events ||| ·) (BitVec.or_comm ..)).trans (BitVec.or_assoc ..).symm))
    exact (congrArg (StatusUnit.latched es) hswap).trans (ih _)

theorem latched_eventSet (e : Event) (u : StatusUnit) : (u.latched [e]).events.getLsbD e.bit = true := by
  have hbit : (1#14 <<< e.bit).getLsbD e.bit = true := by induction e <;> rfl
  exact (BitVec.getLsbD_or ..).trans (by rw [hbit, Bool.or_true])

theorem request_eq (q : Requester) (s : State) : request q s = s.setArb (s.arb.asked s.store q) :=
  (apply_ite (fun a => s.setArb a) _ _ _).symm

theorem boundaryPeriod_of_reached {s : State} (h : s.boundaryReached = true) :
    boundaryPeriod s = boundaryNow (s.setStats { s.stats with boundary := 0 }) := if_pos h

/-- A boundary before or after the sweep's part of a period: only the statistics tell the orders apart. -/
theorem sweepPeriod_boundaryPeriod {s : State} (h : s.boundaryReached = true) :
    OnlyChanges [.stats] (boundaryPeriod (sweepPeriod s)) (sweepPeriod (boundaryPeriod s)) := by
  rw [boundaryPeriod_of_reached ((boundaryReached_sweepPeriod s).trans h), boundaryPeriod_of_reached h]
  let b := boundaryNow (s.setStats { s.stats with boundary := 0 })
  cases hidx : s.sweep.idx with
  | none =>
    rw [sweepPeriod_of_idle hidx, sweepPeriod_of_idle (s := b) hidx, request_eq, request_eq]
    exact onlyChanges_of_eq _ rfl
  | some i =>
    rw [sweepPeriod_of_running hidx, sweepPeriod_of_running (s := b) hidx]
    by_cases hpend : s.sweep.pend < 3
    · rw [if_pos hpend, if_pos (show b.sweep.pend < 3 from hpend)]
      exact onlyChanges_of_eq _ rfl
    · rw [if_neg hpend, if_neg (show ¬ b.sweep.pend < 3 from hpend)]
      exact (onlyChanges_of_eq [.stats, .stat] rfl).without (b := .stat) (StatusUnit.latched_comm [.sweepOverrun] .period s.stat) rfl

/-- The silence counter does not read the statistics. -/
theorem silencePeriod_sameButStats {s t : State} (h : OnlyChanges [.stats] s t) :
    OnlyChanges [.stats] (silencePeriod s) (silencePeriod t) := by
  have hlrx : t.lrx = s.lrx := h.same .lrx rfl
  have hstat : t.stat = s.stat := h.same .stat rfl
  have hreached : t.silenceReached = s.silenceReached :=
    silenceReached_congr (h.same .cfg rfl) hlrx (congrArg StatusUnit.silent hstat)
  have hboth := ((h.trans (silencePeriod_onlyChanges t)).mono (cs := [.stats, .lrx, .stat]) rfl).merge
    ((silencePeriod_onlyChanges s).mono rfl)
  refine (hboth.without (b := .lrx) (cs := [.stats, .stat]) ?_ rfl).without (b := .stat) ?_ rfl
  · exact (silencePeriod_lrx t).trans (hlrx ▸ (silencePeriod_lrx s).symm)
  · exact (silencePeriod_stat t).trans (hreached ▸ hstat ▸ (silencePeriod_stat s).symm)

theorem overflows_iff {s : State} : s.overflows = true ↔ s.timer.run = true ∧ s.timer.count = 0xFFFFFFFF#32 :=
  (Bool.and_eq_true_iff).trans (and_congr_right fun _ => decide_eq_true_iff)

theorem silenceReached_iff {s : State} : s.silenceReached = true ↔ s.lrx.st ≠ .disabled ∧ s.cfg.tSilent ≠ 0 ∧
    s.stat.silent.live = false ∧ s.cfg.tSilent ≤ satInc s.lrx.silence :=
  silenceReached_eq_decide s ▸ decide_eq_true_iff

theorem boundaryReached_iff {s : State} : s.boundaryReached = true ↔
    s.cfg.statLimit ≠ 0 ∧ s.cfg.statLimit.toNat ≤ s.stats.boundary.toNat + 1 :=
  boundaryReached_eq_decide s ▸ decide_eq_true_iff

/-! ## Accepted commands (10 R159) -/

theorem commandWrite_of_takes {s : State} (h : TakesCommands s) {k : Command}
    (hk : [Command.deviceReset, .unknown].contains k = false) : commandWrite k s = runCommand k (acceptCommand s) := by
  obtain ⟨-, hidle, hstarted⟩ := h
  have hfree : ¬ s.cu.st.busyBit = true := hidle ▸ Bool.false_ne_true
  have hother : ∀ k', [Command.deviceReset, .unknown].contains k' = true → k ≠ k' := fun k' hk' e =>
    Bool.false_ne_true (hk.symm.trans (e ▸ hk'))
  exact (if_neg (hother _ rfl)).trans ((if_neg hfree).trans ((if_neg hstarted).trans (if_neg (hother _ rfl))))

/-- A command row on a unit that takes commands runs its command. -/
theorem exists_next_of_takes {s t : State} (h : TakesCommands s) {c : Instr} {k : Command} {Q : State → Prop}
    (hexec : exec c s = .next (hostAccess (commandWrite k) s))
    (hk : [Command.deviceReset, .unknown].contains k = false) (hrun : runCommand k (acceptCommand s) = t) (hQ : let t := t; Q t) :
    ∃ t, exec c s = .next t ∧ Q t :=
  exists_next_of_hostOpen h.1 hexec (((commandWrite_of_takes h hk).trans hrun).symm ▸ hQ)

/-- A command that completes at once leaves the unit as it found it, but for the two codes. -/
theorem completed_cu {s : State} (h : TakesCommands s) (r : Result) :
    ({ s.cu with st := .idle, result := r, refusal := .ok } : CmdUnit) = { s.cu with result := r, refusal := .ok } :=
  congrArg (fun st : CmdState => { s.cu with st := st, result := r, refusal := .ok }) h.2.1.symm

/-- Settles O39: the two rows are overflowing ticks, and SNAPSHOT a boundary of its own. -/
theorem silenceAndBoundaries : Obligations.SilenceAndBoundaries := by
  intro s overflows reached silent overrun
  refine ⟨fun hover hsil => ?silent, fun hnot => exec_next_of_eq rfl (if_neg fun h => hnot ?notSilent),
    fun hover hrea => ?boundary, fun hnot => exec_next_of_eq rfl (if_neg fun h => hnot ?notReached), fun htakes =>
    exists_next_of_takes htakes rfl rfl rfl (by intro t; exact ⟨rfl, rfl, rfl, completed_cu htakes .ok, ((acceptCommand_onlyChanges s).trans (snapshotNow_onlyChanges _)).andThen (complete_onlyChanges _ _) rfl⟩)⟩
  case silent =>
    have hsilence : s.silenceReached = true := silenceReached_iff.mpr hsil
    have hadvance : advance s = period (reloadTimer s) := advance_of_eq hover.2
    have hrow : (s.overflows && s.silenceReached) = true := Bool.and_eq_true_iff.mpr ⟨overflows_iff.mpr hover, hsilence⟩
    refine ⟨period (reloadTimer s), exec_next_of_eq rfl ((if_pos hrow).trans hadvance),
      exec_next_of_eq rfl ((if_pos (overflows_iff.mpr hover)).trans hadvance), ?_, (period_lrx _).trans (if_neg hsil.1)⟩
    exact (congrArg StatusUnit.silent (period_stat _)).trans (if_pos hsilence)
  case notSilent => exact (Bool.and_eq_true_iff.mp h).imp overflows_iff.mp silenceReached_iff.mp
  case notReached => exact (Bool.and_eq_true_iff.mp h).imp overflows_iff.mp boundaryReached_iff.mp
  case boundary =>
    have hboundary : (reloadTimer s).boundaryReached = true := boundaryReached_iff.mpr hrea
    have hrow : (s.overflows && s.boundaryReached) = true := Bool.and_eq_true_iff.mpr ⟨overflows_iff.mpr hover, hboundary⟩
    have hbefore := sweepPeriod_onlyChanges (boundaryPeriod (reloadTimer s))
    have hafter := silencePeriod_onlyChanges (sweepPeriod (boundaryPeriod (reloadTimer s)))
    have hsweep : (boundaryPeriod (reloadTimer s)).sweep = s.sweep := (boundaryPeriod_onlyChanges _).same .sweep rfl
    refine ⟨_, period (reloadTimer s), exec_next_of_eq rfl (if_pos hrow),
      exec_next_of_eq rfl ((if_pos (overflows_iff.mpr hover)).trans (advance_of_eq hover.2)), ?stats, ?event, ?store, ?others⟩
    case stats =>
      refine (hafter.same .stats rfl).trans ((sweepPeriod_stats _).trans ?_)
      rw [hsweep, boundaryPeriod_stats, if_pos hboundary]
      rfl
    case event =>
      have hevents : ∀ u : State, (silencePeriod u).stat.events = u.stat.events := fun u =>
        silencePeriod_stat u ▸ ite_keeps (P := fun v : StatusUnit => v.events = _) (fun _ => rfl) fun _ => rfl
      unfold State.eventSet
      rw [hevents, sweepPeriod_stat, boundaryPeriod_stat, if_pos hboundary, StatusUnit.latched_comm]
      exact latched_eventSet .period _
    case store =>
      exact ((hbefore.trans hafter).same .store rfl).trans ((boundaryPeriod_store _).trans (if_pos hboundary))
    case others =>
      exact fun b hb => silencePeriod_sameButStats (sweepPeriod_boundaryPeriod hboundary) b (by simpa using hb)

end Sys2Proof.Machine

/-! PROOFS. The Command Unit: commands accepted, and the transactions of accepted commands. -/

namespace Sys2Proof.Machine

/-! ## Operations as updates of blocks -/

theorem endTransaction_eq (s : State) : endTransaction s = s.setArb (s.arb.ended s.store) :=
  (apply_ite (fun a => s.setArb a) _ _ _).symm

theorem eq_setStore_setStat {s t : State} {v : Store} {u : StatusUnit} (h : OnlyChanges [.store, .stat] s t)
    (hstore : t.store = v) (hstat : t.stat = u) : t = (s.setStore v).setStat u :=
  State.ext_blocks (h.same .pending rfl) (h.same .pins rfl) (h.same .cfg rfl) (h.same .banks rfl) hstore (h.same .arb rfl)
    (h.same .exp rfl) (h.same .comp rfl) (h.same .fbq rfl) (h.same .lrx rfl) (h.same .ltx rfl) (h.same .timer rfl)
    (h.same .sweep rfl) (h.same .stats rfl) (h.same .host rfl) (h.same .cu rfl) hstat

theorem writeRx_eq (n : Ctx) (st : RxState) (c : Contents) (s : State) :
    writeRx n st c s = (s.setStore (s.store.withRx n st c)).setStat (s.stat.seesRx n st c) :=
  eq_setStore_setStat (onlyChanges_of_frame _ (writeRx_frame ..)) (writeRx_store ..) (writeRx_stat ..)

theorem writeTx_eq (n : Ctx) (st : TxState) (c : Contents) (s : State) :
    writeTx n st c s = (s.setStore (s.store.withTx n st c)).setStat (s.stat.seesTx n st c) :=
  eq_setStore_setStat (onlyChanges_of_frame _ (writeTx_frame ..)) (writeTx_store ..) (writeTx_stat ..)

theorem readRx_onlyChanges (q : Requester) (n : Ctx) (s : State) : OnlyChanges [.store, .stats, .stat] s (readRx q n s) :=
  onlyChanges_of_frame _ (readRx_frame q n s)

theorem readTx_onlyChanges (q : Requester) (n : Ctx) (s : State) : OnlyChanges [.store, .stats, .stat] s (readTx q n s) :=
  onlyChanges_of_frame _ (readTx_frame q n s)

/-! ## Commands accepted (10 R159) -/

/-- A command that needs one transaction is accepted: the unit is BUSY and asks for it. -/
theorem exists_started {s : State} (h : TakesCommands s) (w : StoreCmd) {c : Instr} {k : Command}
    (hexec : exec c s = .next (hostAccess (commandWrite k) s))
    (hrun : runCommand k (acceptCommand s) = startTransaction w (acceptCommand s))
    (hk : [Command.deviceReset, .unknown].contains k = false) :
    ∃ t, exec c s = .next t ∧ t.cu = { s.cu with st := .busy w s.cu.argN s.cu.argDir, refusal := .ok } ∧
      t.arb = s.arb.asked s.store .command ∧ OnlyChanges [.cu, .arb] s t := by
  exact exists_next_of_takes h hexec hk (hrun.trans (request_eq ..)) (by intro t; exact ⟨rfl, rfl, onlyChanges_of_eq _ rfl⟩)

/-! ## Transactions of accepted commands -/

/-- The state after a command's work `w` that completes with `r` and ends its transaction. -/
noncomputable def finished (r : Result) (w : State) : State := (complete r w).setArb (w.arb.ended w.store)

theorem finished_onlyChanges (r : Result) (w : State) : OnlyChanges [.arb, .cu, .stat] w (finished r w) :=
  onlyChanges_of_eq _ rfl

theorem exists_finished {s w : State} {c : StoreCmd} {n : Ctx} {d : Dir} {r : Result} {Q : State → Prop}
    (hholds : s.holds .command = true) (hst : s.cu.st = .busy c n d) (hwork : commandWork c n d s = complete r w)
    (hQ : let t := finished r w; Q t) : ∃ t, exec .commandTransaction s = .next t ∧ Q t := by
  refine ⟨_, congrArg Host.Outcome.next ?_, hQ⟩
  rw [hst]
  exact (if_pos hholds).trans (hwork ▸ endTransaction_eq _)

end Sys2Proof.Machine

/-! PROOFS. PIN and UNPIN. -/

namespace Sys2Proof.Machine

theorem RxState.keyed_eq_false_iff {st : RxState} : st.keyed = false ↔ st = .free ∨ st = .damaged := by
  induction st <;> decide

theorem TxState.slotted_eq_false_iff {st : TxState} : st.slotted = false ↔ st = .free ∨ st = .damaged := by
  induction st <;> decide

/-- The unit after a command's work that left it alone. -/
theorem finished_cu {s w : State} (h : w.cu = s.cu) (r : Result) :
    (finished r w).cu = { s.cu with st := .idle, result := r } :=
  congrArg (fun u : CmdUnit => { u with st := .idle, result := r }) h

/-- A command's work on the store, and the end of its transaction. -/
theorem finished_within {s w : State} {r : Result} (h : OnlyChanges [.store, .stats, .stat] s w) :
    OnlyChanges [.cu, .store, .stats, .stat, .arb] s (finished r w) := h.andThen (finished_onlyChanges r w) rfl

/-- A record write after a checked read. -/
theorem written_within {s s1 : State} (h : OnlyChanges [.store, .stats, .stat] s s1) (v : Store) (u : StatusUnit) :
    OnlyChanges [.store, .stats, .stat] s ((s1.setStore v).setStat u) :=
  h.andThen (onlyChanges_of_eq [.store, .stat] rfl) rfl

/-- Settles O47: a pinned state needs a key on the receive side and a slot on the transmit side. -/
theorem pinCommands : Obligations.PinCommands := by
  refine ⟨fun s htakes => ⟨exists_started htakes .pin rfl rfl rfl, exists_started htakes .unpin rfl rfl rfl⟩,
    fun s n v hholds => ⟨fun hst => ?receive, fun hst => ?transmit⟩⟩
  case receive =>
    intro s1 r c
    have hpin : commandWork (if v then .pin else .unpin) n .receive s =
        if (s1.rxRec n).st.keyed then complete .ok (writeRx n r.st c s1) else complete .badArgument s1 := by induction v <;> rfl
    have hread : OnlyChanges [.store, .stats, .stat] s s1 := readRx_onlyChanges .command n s
    clear_value s1
    have hcu : s1.cu = s.cu := hread.same .cu rfl
    cases hkeyed : (s1.rxRec n).st.keyed with
    | true =>
      exact exists_finished hholds hst (hpin.trans ((if_pos hkeyed).trans (congrArg (complete .ok) (writeRx_eq ..)))) (by intro t; exact ⟨rfl, rfl,
        finished_within (written_within hread _ _),
        fun h => absurd hkeyed (ne_true_of_eq_false (RxState.keyed_eq_false_iff.mpr h)), fun _ _ => ⟨rfl, rfl, finished_cu hcu _⟩⟩)
    | false =>
      exact exists_finished hholds hst (hpin.trans (if_neg (ne_true_of_eq_false hkeyed))) (by intro t; exact ⟨rfl, rfl,
        finished_within hread, fun _ => ⟨rfl, rfl, finished_cu hcu _⟩,
        fun hfree hdamaged => absurd (RxState.keyed_eq_false_iff.mp hkeyed) (not_or.mpr ⟨hfree, hdamaged⟩)⟩)
  case transmit =>
    intro s1 r c
    have hpin : commandWork (if v then .pin else .unpin) n .transmit s =
        if (s1.txRec n).st.slotted then complete .ok (writeTx n r.st c s1) else complete .badArgument s1 := by induction v <;> rfl
    have hread : OnlyChanges [.store, .stats, .stat] s s1 := readTx_onlyChanges .command n s
    clear_value s1
    have hcu : s1.cu = s.cu := hread.same .cu rfl
    cases hslotted : (s1.txRec n).st.slotted with
    | true =>
      exact exists_finished hholds hst (hpin.trans ((if_pos hslotted).trans (congrArg (complete .ok) (writeTx_eq ..)))) (by intro t; exact ⟨rfl, rfl,
        finished_within (written_within hread _ _),
        fun h => absurd hslotted (ne_true_of_eq_false (TxState.slotted_eq_false_iff.mpr h)), fun _ _ => ⟨rfl, rfl, finished_cu hcu _⟩⟩)
    | false =>
      exact exists_finished hholds hst (hpin.trans (if_neg (ne_true_of_eq_false hslotted))) (by intro t; exact ⟨rfl, rfl,
        finished_within hread, fun _ => ⟨rfl, rfl, finished_cu hcu _⟩,
        fun hfree hdamaged => absurd (TxState.slotted_eq_false_iff.mp hslotted) (not_or.mpr ⟨hfree, hdamaged⟩)⟩)

end Sys2Proof.Machine

/-! PROOFS. The bank commands. -/

namespace Sys2Proof.Machine

theorem argBank_of_argN {s : State} {k : BankId} (h : s.cu.argN = (match k with | .a => 0 | .b => 1)) :
    (acceptCommand s).cu.argBank = some k := by
  unfold CmdUnit.argBank
  rw [show (acceptCommand s).cu.argN = _ from h]
  clear h
  induction k <;> rfl

/-- A bank command on a bank that its argument names. -/
theorem exists_on_bank {s t : State} (h : TakesCommands s) {c : Instr} {k : Command} {i : BankId} {f : BankId → State → State}
    {Q : State → Prop} (harg : s.cu.argN = (match i with | .a => 0 | .b => 1))
    (hexec : exec c s = .next (hostAccess (commandWrite k) s))
    (hk : [Command.deviceReset, .unknown].contains k = false) (hrun : runCommand k (acceptCommand s) = onBank f (acceptCommand s))
    (hf : f i (acceptCommand s) = t) (hQ : let t := t; Q t) : ∃ t, exec c s = .next t ∧ Q t := by
  refine exists_next_of_takes h hexec hk (hrun.trans ?_) hQ
  unfold onBank
  rw [argBank_of_argN harg]
  exact hf

/-- What a bank command changes before it completes. -/
theorem completed_within {s u : State} {bs cs : List Block} {r : Result} (h : OnlyChanges bs (acceptCommand s) u)
    (hsub : ([Block.cu] ++ (bs ++ [Block.cu, .stat])).all (cs.contains ·) = true) : OnlyChanges cs s (complete r u) :=
  (acceptCommand_onlyChanges s).andThen (h.trans (complete_onlyChanges r u)) hsub

/-- Settles O50, by whether the bank is in use. -/
theorem openBankCommand : Obligations.OpenBankCommand := by
  intro s k htakes harg
  by_cases hused : s.comp.working = k ∨ s.comp.pendingBank = some k
  · exact exists_on_bank htakes harg rfl rfl rfl (if_pos hused) (by intro t; exact ⟨rfl, completed_within (.refl [] _) rfl,
      fun _ => ⟨rfl, completed_cu htakes _⟩, fun hw hp => absurd hused (not_or.mpr ⟨hw, hp⟩)⟩)
  · exact exists_on_bank htakes harg rfl rfl rfl (if_neg hused) (by intro t; exact ⟨rfl, completed_within (onlyChanges_of_eq [.banks] rfl) rfl,
      fun h => absurd h hused, fun _ _ => ⟨rfl, completed_cu htakes _⟩⟩)

section
variable {k : BankId} {s : State}

theorem closeBank_of_loading (h : (s.banks.get k).st = .loading) :
    closeBank k s = complete .ok (s.setBanks (s.banks.put k { s.banks.get k with st := .valid })) := by
  rw [closeBank, h]

theorem closeBank_of_valid (h : (s.banks.get k).st = .valid) : closeBank k s = complete .ok s := by rw [closeBank, h]

theorem closeBank_of_invalid (h : (s.banks.get k).st = .invalid) : closeBank k s = complete .bankInvalid s := by
  rw [closeBank, h]

end

/-- Settles O51, by the state of the bank. -/
theorem closeAndSelectBank : Obligations.CloseAndSelectBank := by
  refine fun s k htakes harg => ⟨?close, ?select⟩
  case close =>
    cases hbank : (s.banks.get k).st with
    | loading =>
      exact exists_on_bank htakes harg rfl rfl rfl (closeBank_of_loading (s := acceptCommand s) hbank)
        (by intro t; exact ⟨rfl, completed_within (onlyChanges_of_eq [.banks] rfl) rfl, fun _ => ⟨rfl, completed_cu htakes _⟩, nofun, nofun⟩)
    | valid =>
      exact exists_on_bank htakes harg rfl rfl rfl (closeBank_of_valid (s := acceptCommand s) hbank)
        (by intro t; exact ⟨rfl, completed_within (.refl [] _) rfl, nofun, fun _ => ⟨rfl, completed_cu htakes _⟩, nofun⟩)
    | invalid =>
      exact exists_on_bank htakes harg rfl rfl rfl (closeBank_of_invalid (s := acceptCommand s) hbank)
        (by intro t; exact ⟨rfl, completed_within (.refl [] _) rfl, nofun, nofun, fun _ => ⟨rfl, completed_cu htakes _⟩⟩)
  case select =>
    by_cases hvalid : (s.banks.get k).st = .valid
    · exact exists_on_bank htakes harg rfl rfl rfl (if_pos hvalid)
        (by intro t; exact ⟨rfl, completed_within (onlyChanges_of_eq [.comp] rfl) rfl, fun _ => ⟨rfl, completed_cu htakes _⟩,
          fun h => absurd hvalid h⟩)
    · exact exists_on_bank htakes harg rfl rfl rfl (if_neg hvalid)
        (by intro t; exact ⟨rfl, completed_within (.refl [] _) rfl, fun h => absurd h hvalid, fun _ => ⟨rfl, completed_cu htakes _⟩⟩)

end Sys2Proof.Machine

/-! PROOFS. Command writes that are refused. -/

namespace Sys2Proof.Machine

theorem busyBit_of_ne_idle {st : CmdState} (h : st ≠ .idle) : st.busyBit = true := by
  induction st with
  | idle => exact absurd rfl h
  | _ => rfl

theorem idle_not_busyBit {st : CmdState} (h : st = .idle) : ¬ st.busyBit = true := h ▸ Bool.false_ne_true

section
variable {s : State} {k : Command} (hk : (k == .deviceReset) = false)
include hk

theorem commandWrite_of_busy (h : s.cu.st ≠ .idle) : commandWrite k s = refuseBusy s :=
  (if_neg (ne_of_beq_false hk)).trans (if_pos (busyBit_of_ne_idle h))

theorem commandWrite_of_starting (h : s.cu.st = .idle) (hst : s.store.st = .starting) :
    commandWrite k s = complete .notReady s :=
  (if_neg (ne_of_beq_false hk)).trans ((if_neg (idle_not_busyBit h)).trans (if_pos hst))

end

theorem commandWrite_unknown {s : State} (h : TakesCommands s) : commandWrite .unknown s = complete .badArgument s := by
  obtain ⟨-, hidle, hstarted⟩ := h
  exact (if_neg (by decide)).trans ((if_neg (idle_not_busyBit hidle)).trans ((if_neg hstarted).trans (if_pos rfl)))

theorem commandOfCode_eq_unknown {w : Word} (h : w = 0 ∨ 18 < w.toNat) : commandOfCode w = .unknown := by
  rcases h with rfl | h
  · rfl
  · rw [commandOfCode, ← Nat.sub_add_cancel h]
    rfl

theorem argBank_eq_none {u : CmdUnit} (h : 1 < u.argN.toNat) : u.argBank = none := by
  rw [CmdUnit.argBank, ← Nat.sub_add_cancel h]
  rfl

/-- A row whose command is done on the bank that the argument names. -/
def IsBankRow (i : Instr) : Prop :=
  ∃ k f, (∀ s, exec i s = .next (hostAccess (commandWrite k) s)) ∧ [Command.deviceReset, .unknown].contains k = false ∧
    ∀ s, runCommand k s = onBank f s

theorem onBank_of_none {f : BankId → State → State} {s : State} (h : s.cu.argBank = none) :
    onBank f s = complete .badArgument s := by
  rw [onBank, h]

/-- A row that writes a command other than DEVICE_RESET. -/
def IsCommandRow (i : Instr) : Prop :=
  ∃ k, (k == Command.deviceReset) = false ∧ ∀ s, exec i s = .next (hostAccess (commandWrite k) s)

theorem refused_within (s : State) : OnlyChanges [.cu, .stat] s (refuseBusy s) := onlyChanges_of_frame _ (refuseBusy_frame s)

/-- The two refusals of every command row. -/
theorem IsCommandRow.refused {s : State} (hopen : HostOpen s) {i : Instr} (h : IsCommandRow i) :
    (s.cu.st ≠ .idle →
      ∃ t, exec i s = .next t ∧ t.cu = { s.cu with refusal := .busy } ∧ t.stat = s.stat.latched [.commandRefused] ∧
        OnlyChanges [.cu, .stat] s t) ∧
    (s.cu.st = .idle → s.store.st = .starting →
      ∃ t, exec i s = .next t ∧ t.cu = { s.cu with result := .notReady } ∧ t.stat = s.stat.latched [.commandDone] ∧
        OnlyChanges [.cu, .stat] s t) := by
  obtain ⟨k, hk, hexec⟩ := h
  refine ⟨fun hbusy => exists_next (hexec s) ((hostAccess_of_hostOpen hopen _).trans (commandWrite_of_busy hk hbusy))
    (by intro t; exact ⟨rfl, rfl, refused_within s⟩), fun hidle hst => exists_next (hexec s)
    ((hostAccess_of_hostOpen hopen _).trans (commandWrite_of_starting hk hidle hst)) ⟨?_, rfl, complete_onlyChanges _ s⟩⟩
  exact congrArg (fun st : CmdState => { s.cu with st := st, result := .notReady }) hidle.symm

/-- Settles O52: BUSY before NOT_READY, and both before the command is looked at. -/
theorem commandsRefused : Obligations.CommandsRefused := by
  refine fun s hopen => ⟨fun i hi => IsCommandRow.refused hopen ?row, fun code hcode => ?unknown, fun htakes harg i hi => ?bank,
    fun j w => ⟨fun hidle => ?stored, fun hbusy => ?refused⟩⟩
  case row =>
    have hrows : List.Forall IsCommandRow [Instr.readRx, .readTx, .loadRx, .loadTx, .retireRx, .retireTx, .pin, .unpin,
        .retireAllRx, .retireAllTx, .findTx, .openBank, .closeBank, .selectTxBank, .clearDegraded, .snapshot, .linkReset ()] :=
      ⟨⟨.readRx, rfl, fun _ => rfl⟩, ⟨.readTx, rfl, fun _ => rfl⟩, ⟨.loadRx, rfl, fun _ => rfl⟩,
        ⟨.loadTx, rfl, fun _ => rfl⟩, ⟨.retireRx, rfl, fun _ => rfl⟩, ⟨.retireTx, rfl, fun _ => rfl⟩,
        ⟨.pin, rfl, fun _ => rfl⟩, ⟨.unpin, rfl, fun _ => rfl⟩, ⟨.retireAllRx, rfl, fun _ => rfl⟩,
        ⟨.retireAllTx, rfl, fun _ => rfl⟩, ⟨.findTx, rfl, fun _ => rfl⟩, ⟨.openBank, rfl, fun _ => rfl⟩,
        ⟨.closeBank, rfl, fun _ => rfl⟩, ⟨.selectTxBank, rfl, fun _ => rfl⟩, ⟨.clearDegraded, rfl, fun _ => rfl⟩,
        ⟨.snapshot, rfl, fun _ => rfl⟩, ⟨.linkReset, rfl, fun _ => rfl⟩⟩
    exact List.forall_iff_forall_mem.mp hrows i hi
  case unknown =>
    have hunknown := commandOfCode_eq_unknown hcode
    have hexec : ∀ s, exec (.unknownCommand code) s = .next (hostAccess (commandWrite .unknown) s) := fun s => hunknown ▸ rfl
    exact ⟨fun htakes => exists_next (hexec s) ((hostAccess_of_hostOpen hopen _).trans (commandWrite_unknown htakes))
      (by intro t; exact ⟨congrArg (fun st : CmdState => { s.cu with st := st, result := .badArgument }) htakes.2.1.symm, rfl,
        complete_onlyChanges _ s⟩), IsCommandRow.refused hopen ⟨.unknown, rfl, hexec⟩⟩
  case bank =>
    have hrows : List.Forall IsBankRow [Instr.openBank, .closeBank, .selectTxBank] :=
      ⟨⟨_, openBank, fun _ => rfl, rfl, fun _ => rfl⟩, ⟨_, closeBank, fun _ => rfl, rfl, fun _ => rfl⟩,
        ⟨_, selectBank, fun _ => rfl, rfl, fun _ => rfl⟩⟩
    obtain ⟨k, f, hexec, hk, hrun⟩ := List.forall_iff_forall_mem.mp hrows i hi
    exact exists_next_of_takes htakes (hexec s) hk ((hrun _).trans (onBank_of_none (argBank_eq_none harg)))
      (by intro t; exact ⟨completed_cu htakes _, rfl, completed_within (.refl [] _) rfl⟩)
  case stored =>
    exact exists_next rfl ((hostAccess_of_hostOpen hopen _).trans (if_neg (idle_not_busyBit hidle)))
      (by intro t; exact ⟨rfl, onlyChanges_of_eq [.cu] rfl⟩)
  case refused =>
    exact exists_next rfl ((hostAccess_of_hostOpen hopen _).trans (if_pos (busyBit_of_ne_idle hbusy)))
      (by intro t; exact ⟨rfl, rfl, refused_within s⟩)

end Sys2Proof.Machine

/-! PROOFS. Cases of the larger operations, for the invariants: an accepted command, an abandoned frame, a byte slot. The working
and the pending bank stay VALID. -/

namespace Sys2Proof.Machine

/-! ## Cases of operations -/

/-- A write of the command word: a boundary, the bank commands and the resets one by one, the others by what they leave
unchanged. -/
theorem commandWrite_changes {P : State → Prop} (c : Command) (s : State)
    (hframe : ∀ t, OnlyChanges [.arb, .cu, .stat] s t → P t) (hsnapshot : P (complete .ok (snapshotNow (acceptCommand s))))
    (hopen : ∀ k, P (openBank k (acceptCommand s))) (hclose : ∀ k, P (closeBank k (acceptCommand s)))
    (hselect : ∀ k, P (selectBank k (acceptCommand s))) (hlink : P (complete .ok (linkReset (acceptCommand s))))
    (hreset : ∀ t, P (deviceReset t)) : P (commandWrite c s) := by
  have haccept := acceptCommand_onlyChanges s
  have hdone : ∀ r, P (complete r (acceptCommand s)) := fun r => hframe _ (haccept.andThen (complete_onlyChanges r _) rfl)
  have hstart : ∀ k, P (startTransaction k (acceptCommand s)) := fun k =>
    hframe _ (haccept.andThen (startTransaction_onlyChanges k _) rfl)
  have hwalk : ∀ d, P (startWalk d (acceptCommand s)) := fun d =>
    hframe _ (haccept.andThen (onlyChanges_of_frame [.arb, .cu] (startWalk_frame d _)) rfl)
  have hbank : ∀ f : BankId → State → State, (∀ k, P (f k (acceptCommand s))) → P (onBank f (acceptCommand s)) := fun f hf => by
    unfold onBank
    induction (acceptCommand s).cu.argBank with
    | none => exact hdone _
    | some k => exact hf k
  refine commandWrite_cases c s (fun _ => hreset s) (hframe _ ((onlyChanges_of_frame [.cu, .stat] (refuseBusy_frame s)).mono rfl))
    (fun r _ => hframe _ ((complete_onlyChanges r s).mono rfl)) fun _ _ => ?_
  induction c with
  | retireAllRx | retireAllTx => exact hwalk _
  | loadRx | loadTx => exact ite_keeps (fun _ => hstart _) fun _ => hdone _
  | openBank => exact hbank _ hopen
  | closeBank => exact hbank _ hclose
  | selectTxBank => exact hbank _ hselect
  | snapshot => exact hsnapshot
  | linkReset => exact hlink
  | deviceReset => exact hreset _
  | unknown => exact hdone _
  | _ => exact hstart _

/-- The abandonment of a frame, by what the transmitter and the Compressor do. -/
theorem abandonFrame_cases {P : State → Prop} (s : State) (hself : P s)
    (htake : ∀ m f, s.comp.work = .taking m f .send → P (s.setComp { s.comp with work := .taking m f .abandon }))
    (hanswer : ∀ fl, s.ltx.st = .frame → s.ltx.inFlight = some fl → s.comp.work.asks = false →
      P (answerAbandoned fl.n (countAborted s))) : P (abandonFrame s) := by
  refine ite_keeps (fun hframe => ?_) fun _ => hself
  replace hanswer := fun fl => hanswer fl hframe
  revert htake hanswer
  induction s.comp.work with
  | taking m f fate =>
    intro htake _
    induction fate with
    | send => exact htake m f rfl
    | _ => exact hself
  | aborting _ => exact fun _ _ => hself
  | _ =>
    intro _
    induction s.ltx.inFlight with
    | none => exact fun _ => hself
    | some fl => exact fun hanswer => hanswer fl rfl rfl

/-- A byte slot: what it puts on the line changes the pins, the gap and the bytes to send. -/
theorem byteSlot_cases {P : State → Prop} (s : State)
    (hslot : ∀ u t, OnlyChanges [.pins, .ltx] u t → t.ltx = { u.ltx with gap := t.ltx.gap, rest := t.ltx.rest } → P u → P t)
    (hself : P s) (habandon : P (abandonFrame s)) : P (byteSlot s) := by
  suffices hbyte : ∀ u, P u → P (slotByte u) from hbyte _ (ite_keeps (fun _ => habandon) fun _ => hself)
  intro u hu
  have hpins : ∀ v, P (u.setPins v) := fun v => hslot u _ ((onlyChanges_setPins v u).mono rfl) rfl hu
  unfold slotByte
  induction u.ltx.st with
  | disabled => exact hpins _
  | idle | held => exact hslot u _ (onlyChanges_of_eq _ rfl) rfl hu
  | frame =>
    have hrest : ∀ b bs, P (sendBytes [b] (u.setLtx { u.ltx with rest := bs })) := fun b bs =>
      hslot u _ (onlyChanges_of_eq _ rfl) rfl hu
    clear hslot
    induction u.ltx.rest with
    | nil => exact hpins _
    | cons b bs _ =>
      induction bs with
      | nil => exact hu
      | cons c bs _ => exact hrest b _

/-! ## The banks in use (02 R34) -/

/-- Every bank's state and the choice of banks are as they were. -/
theorem BanksUsable.of_same {s t : State} (h : BanksUsable s) (hbanks : ∀ k, (t.banks.get k).st = (s.banks.get k).st)
    (hcomp : t.comp = { s.comp with work := t.comp.work }) : BanksUsable t := by
  have hworking : t.comp.working = s.comp.working := (congrArg Compressor.working hcomp :)
  have hpending : t.comp.pendingBank = s.comp.pendingBank := (congrArg Compressor.pendingBank hcomp :)
  exact ⟨(congrArg (fun k => (t.banks.get k).st) hworking).trans ((hbanks _).trans h.1), fun k hk => (hbanks k).trans (h.2 k (hpending ▸ hk))⟩

/-- Banks and Compressor are outside the frame, or the Compressor's choice is kept. -/
theorem BanksUsable.of_choice {bs : List Block} {s t : State} (h : BanksUsable s) (hframe : OnlyChanges bs s t)
    (hbanks : bs.contains .banks = false) (hcomp : t.comp = { s.comp with work := t.comp.work }) : BanksUsable t :=
  h.of_same (fun _ => congrArg (fun b : Banks => (b.get _).st) (hframe.same .banks hbanks)) hcomp

theorem BanksUsable.of_frame {bs : List Block} {s t : State} (h : BanksUsable s) (hframe : OnlyChanges bs s t)
    (hbanks : (bs.contains .banks || bs.contains .comp) = false) : BanksUsable t := by
  obtain ⟨hbanks, hcomp⟩ := Bool.or_eq_false_iff.mp hbanks
  have hsame : t.comp = s.comp := hframe.same .comp hcomp
  exact h.of_choice hframe hbanks (hsame ▸ rfl)

theorem answerAbandoned_banksUsable {s : State} (h : BanksUsable s) (n : Option Ctx) : BanksUsable (answerAbandoned n s) := by
  induction n with
  | none => exact h
  | some k =>
    exact BanksUsable.of_frame (s := s.setComp { s.comp with work := .aborting k }) h
      (onlyChanges_of_frame [.arb] (request_frame ..)) rfl

theorem countAborted_banksUsable {s : State} (h : BanksUsable s) : BanksUsable (countAborted s) := h

theorem abandonFrame_banksUsable {s : State} (h : BanksUsable s) : BanksUsable (abandonFrame s) :=
  abandonFrame_cases s h (fun _ _ _ => h) fun _ _ _ _ => answerAbandoned_banksUsable (countAborted_banksUsable h) _

theorem byteSlot_banksUsable {s : State} (h : BanksUsable s) : BanksUsable (byteSlot s) :=
  byteSlot_cases s (fun _ _ hframe _ hu => hu.of_frame hframe rfl) h (abandonFrame_banksUsable h)

theorem writeTransmitEnable_banksUsable {s : State} (h : BanksUsable s) (on : Bool) :
    BanksUsable (writeTransmitEnable on s) := by
  refine ite_keeps (fun _ => ite_keeps (fun _ => h) fun _ => h) fun _ => ?_
  induction s.ltx.st with
  | frame => exact abandonFrame_banksUsable (s := s.setLtx { s.ltx with enable := on }) h
  | _ => exact h

theorem endTake_banksUsable {s : State} (h : BanksUsable (endTransaction s)) (f : TxFormat) (fate : TakeFate) (b : Built) :
    BanksUsable (endTake f fate b s) := by
  unfold endTake
  generalize endTransaction s = u at h
  induction fate with
  | send => exact h
  | _ => exact answerAbandoned_banksUsable (countAborted_banksUsable h) b.n

theorem takeGranted_banksUsable {s : State} (h : BanksUsable s) (m : Message) (f : TxFormat) (fate : TakeFate) :
    BanksUsable (takeGranted m f fate s) :=
  endTake_banksUsable (h.of_frame ((onlyChanges_of_frame [.store, .stats, .stat] (takeMessage_frame m s)).trans
    (onlyChanges_of_frame [.arb] (endTransaction_frame _))) rfl) f fate _

theorem linkResetTransmitter_banksUsable {s : State} (h : BanksUsable s) : BanksUsable (linkResetTransmitter s) := by
  have hleave : ∀ v, BanksUsable v → BanksUsable (leaveHeld v) := fun v hv => ite_keeps (fun _ => hv) fun _ => hv
  unfold linkResetTransmitter
  refine hleave _ ?_
  induction s.comp.work with
  | taking m f fate => exact h
  | _ => exact abandonFrame_banksUsable h

theorem linkReset_banksUsable {s : State} (h : BanksUsable s) : BanksUsable (linkReset s) := by
  have hreceiver : BanksUsable (linkResetReceiver (linkResetHost (s.setFbq []))) :=
    BanksUsable.of_frame (s := linkResetHost (s.setFbq [])) h (onlyChanges_of_frame [.lrx, .stat] (linkResetReceiver_frame _)) rfl
  unfold linkReset
  exact linkResetTransmitter_banksUsable (s := linkResetExpander _) hreceiver

/-- A message frame start adopts the pending bank. -/
theorem startFrame_banksUsable {s : State} (h : BanksUsable s) : BanksUsable (startFrame s) := by
  obtain ⟨hworking, hpending⟩ := h
  have hself : BanksUsable s := ⟨hworking, hpending⟩
  have hadopted : (s.banks.get (s.comp.pendingBank.getD s.comp.working)).st = .valid := by
    induction hp : s.comp.pendingBank with
    | none => exact hworking
    | some k => exact hpending k hp
  unfold startFrame
  induction s.frameChoice with
  | stay => exact hself
  | feedback => exact ite_keeps (fun _ => hself) fun _ => hself
  | message =>
    induction s.host.committed with
    | nil => exact hself
    | cons m rest _ =>
      refine ite_keeps (fun _ => hself) fun _ => ?_
      rw [messageStart, request_eq]
      exact ⟨hadopted, fun _ hk => (Option.some_ne_none _ hk.symm).elim⟩

theorem Banks.get_put (b : Banks) (i j : BankId) (k : Bank) : (b.put i k).get j = if j = i then k else b.get j := by
  induction i <;> induction j <;> rfl

/-- Storing the selected table leaves every bank's state. -/
theorem Banks.putSelected_st (b : Banks) (t : BankTable) (k : BankId) : ((b.putSelected t).get k).st = (b.get k).st := by
  have hput : ∀ (x : Bank) i, (x.put i t).st = x.st := fun x i => by induction i <;> rfl
  by_cases hk : k = b.selBank
  · exact (congrArg Bank.st ((Banks.get_put ..).trans (if_pos hk))).trans ((hput _ _).trans (hk ▸ rfl))
  · exact congrArg Bank.st ((Banks.get_put ..).trans (if_neg hk))

/-- A bank command writes one bank, which is not in use or becomes VALID. -/
theorem BanksUsable.of_put {s : State} (h : BanksUsable s) (k : BankId) {x : Bank}
    (hx : x.st = .valid ∨ ¬ (s.comp.working = k ∨ s.comp.pendingBank = some k)) :
    BanksUsable (s.setBanks (s.banks.put k x)) := by
  have hget : ∀ j, (s.banks.get j).st = .valid → (j = k → x.st = .valid) → ((s.banks.put k x).get j).st = .valid :=
    fun j hj hjx => Banks.get_put .. ▸ ite_keeps (P := fun b : Bank => b.st = .valid) hjx fun _ => hj
  exact ⟨hget _ h.1 fun hj => hx.resolve_right fun hn => hn (.inl hj),
    fun j hj => hget j (h.2 j hj) fun e => hx.resolve_right fun hn => hn (.inr (e ▸ hj))⟩

theorem commandWrite_banksUsable {s : State} (h : BanksUsable s) (c : Command) : BanksUsable (commandWrite c s) := by
  have hs : BanksUsable (acceptCommand s) := h
  refine commandWrite_changes c s (fun t hframe => h.of_frame hframe rfl)
    (hs.of_frame ((snapshotNow_onlyChanges _).trans (complete_onlyChanges .ok _)) rfl) (fun k => ?opened) (fun k => ?close) (fun k => ?select)
    ((linkReset_banksUsable hs).of_frame (complete_onlyChanges .ok _) rfl) fun _ => ⟨rfl, fun _ hk => (Option.some_ne_none _ hk.symm).elim⟩
  case opened => exact ite_keeps (fun _ => hs) fun hfree => hs.of_put k (.inr hfree)
  case close =>
    unfold closeBank
    induction ((acceptCommand s).banks.get k).st with
    | loading => exact hs.of_put k (.inl rfl)
    | _ => exact hs
  case select => exact ite_keeps (fun hvalid => ⟨h.1, fun _ hk => Option.some.inj hk ▸ hvalid⟩) fun _ => hs

theorem selectTable_banksUsable {s : State} (h : BanksUsable s) (w : Word) : BanksUsable (selectTable w s) :=
  h.of_same (fun k => (Banks.putSelected_st _ _ k).trans (by induction k <;> rfl)) rfl

theorem writeTable_banksUsable {s : State} (h : BanksUsable s) (w : Word) : BanksUsable (writeTable w s) :=
  ite_keeps (fun _ => h.of_same (fun k => Banks.putSelected_st _ _ k) rfl) fun _ => h

theorem advancePointer_banksUsable {s : State} {v : Pins} (h : BanksUsable s) : BanksUsable (advancePointer (s.setPins v)) :=
  h.of_same (fun k => Banks.putSelected_st _ _ k) rfl

theorem writeControl_banksUsable {s : State} (h : BanksUsable s) (w : Word) : BanksUsable (writeControl w s) := by
  have hdiscard : ∀ u, BanksUsable u → BanksUsable (discardEntry u) := fun u hu =>
    hu.of_frame (onlyChanges_of_frame [.host] (discardEntry_frame u)) rfl
  have henable := writeTransmitEnable_banksUsable (s := writeReceiveEnable (w.getLsbD 0) s)
    (h.of_frame (onlyChanges_of_frame [.lrx] (writeReceiveEnable_frame ..)) rfl) (w.getLsbD 1)
  generalize hu : writeTransmitEnable (w.getLsbD 1) (writeReceiveEnable (w.getLsbD 0) s) = u at henable
  unfold writeControl
  dsimp only
  rw [hu]
  have hdiscarded : BanksUsable (if w.getLsbD 8 then discardEntry u else u) := ite_keeps (fun _ => hdiscard u henable) fun _ => henable
  exact ite_keeps (fun _ => hdiscarded.of_frame (onlyChanges_of_frame [.host] (clearBuild_frame _)) rfl) fun _ => hdiscarded

theorem writeRegister_banksUsable {s : State} (h : BanksUsable s) (a : BitVec 6) (w : Word) :
    BanksUsable (writeRegister a w s) :=
  writeRegister_cases a w s (fun _ hframe _ => h.of_frame hframe rfl) (writeControl_banksUsable h w)
    (h.of_frame (onlyChanges_of_frame [.host] (writeWord_frame w s)) rfl)
    (fun n => h.of_frame (onlyChanges_of_frame [.host, .stat] (commitMessage_frame n s)) rfl)
    (commandWrite_banksUsable h) (selectTable_banksUsable h w) (writeTable_banksUsable h w) h
    (h.of_frame (onlyChanges_of_frame [.store, .arb, .lrx, .timer, .sweep, .stats, .stat] (writeTimerControl_frame w s)) rfl)
    fun k => h.of_frame (onlyChanges_of_frame [.cfg, .ltx] (writeSettings_frame k w s)) rfl

/-- A row that changes none of the observed blocks keeps what is read from them. -/
theorem Answers.of_blocks {P : State → Prop} {c : Instr} {s : State} (bs : List Block)
    (hbs : bs.all (fun b => !(changedBlocks c).contains b) = true) (hP : ∀ t, (∀ b ∈ bs, agreeOn b s t) → P t) :
    Answers P c s := by
  obtain ⟨t, hexec, hframe⟩ := (exec_answers c s).exists_next
  exact .intro hexec (hP t fun b hb => hframe.same b (by simpa using List.all_eq_true.mp hbs b hb))

/-- The rows that read or write neither banks nor Compressor by their frame, the others by their operations. -/
theorem exec_banksUsable {s : State} (h : BanksUsable s) (c : Instr) : Answers BanksUsable c s := by
  have hother : ∀ c, [Block.banks, .comp].all (fun b => !(changedBlocks c).contains b) = true → Answers BanksUsable c s :=
    fun c hc => .of_blocks _ hc fun t ht =>
      h.of_frame (bs := keptBlocks [.banks, .comp]) (fun b hb => ht b (by_contra fun hn => hb (mem_keptBlocks hn))) rfl
  induction c with
  | nextFrameChoice => exact ite_keeps (fun _ => startFrame_banksUsable h) fun _ => h
  | take => exact .take (R := fun _ => True) trivial h fun m f fate _ _ => takeGranted_banksUsable h m f fate
  | takeAbandonedGrant =>
    exact .takeAbandonedGrant (R := fun _ => True) trivial h fun _ _ _ _ =>
      answerAbandoned_banksUsable (countAborted_banksUsable (s := endTransaction s)
      (h.of_frame (onlyChanges_of_frame [.arb] (endTransaction_frame s)) rfl)) none
  | feedbackFrameSent => exact .feedbackFrameSent (R := fun _ => True) trivial h (byteSlot_banksUsable h) fun _ => h
  | messageFrameSent => exact .messageFrameSent (R := fun _ => True) trivial h (byteSlot_banksUsable h) fun _ _ => h
  | ctsNegated => exact ite_keeps (fun _ => abandonFrame_banksUsable (s := setCts false s) h) fun _ => h
  | abortRequest =>
    refine .abortRequest (R := fun _ => True) trivial h fun n _ _ => ?_
    have hmade := h.of_frame ((onlyChanges_of_frame [.store, .stats, .stat] (readTx_frame .compressor n s)).trans
      (onlyChanges_of_frame [.store, .stat] (makeRefreshing_frame n _))) rfl
    exact (answerAbandoned_banksUsable hmade none).of_frame (onlyChanges_of_frame [.arb] (endTransaction_frame _)) rfl
  | idleFillByte => exact byteSlot_banksUsable h
  | transmitEnable on => exact hostAccess_keeps h (writeTransmitEnable_banksUsable h on)
  | tableSelect w => exact hostAccess_keeps h (selectTable_banksUsable h w)
  | tableDataWrite w => exact hostAccess_keeps h (writeTable_banksUsable h w)
  | tableDataRead =>
    exact ite_keeps (P := BanksUsable) (fun _ => h) fun _ => advancePointer_banksUsable h
  | configurationWrite a w => exact hostAccess_keeps h (writeRegister_banksUsable h a w)
  | resetRelease => exact ⟨rfl, fun _ hk => (Option.some_ne_none _ hk.symm).elim⟩
  | readRx | readTx | loadRx | loadTx | retireRx | retireTx | pin | unpin | retireAllRx | retireAllTx | findTx | openBank
  | closeBank | selectTxBank | clearDegraded | snapshot | linkReset | deviceReset | unknownCommand =>
    exact hostAccess_keeps h (commandWrite_banksUsable h _)
  | _ => exact hother _ rfl

/-- Settles O7: bank commands and table accesses change no state of a bank in use, and a bank is chosen only while it is VALID. -/
theorem stepKeepsBanksUsable : Obligations.StepKeepsBanksUsable := fun _ _ h hstep =>
  step_keeps (fun _ _ h => h) (fun c _ _ h hexec => (exec_banksUsable h c).of_next hexec) h hstep

end Sys2Proof.Machine

/-! PROOFS. Records, index, references, keys and free map: how a transmit record loses its slot, and how it takes one. -/

namespace Sys2Proof.Machine

/-! ## Records (03 R37, 04 R74) -/

/-- A receive record with zero contents when it holds no key, and a failure count of 1 to 6 exactly in SUSPECT. -/
structure RxSound (r : Record RxState) : Prop where
  bare : r.st.keyed = false → r.c = .zero
  suspect : r.st = .suspect → 1 ≤ r.c.tally.toNat ∧ r.c.tally.toNat ≤ 6
  other : r.st ≠ .suspect → r.c.tally = 0

/-- A transmit record with zero contents when it has no slot. -/
def TxSound (r : Record TxState) : Prop := r.st.slotted = false → r.c = .zero

/-- Every record of the store is sound. -/
def RecordsSound (s : State) : Prop := ∀ n, RxSound (s.rxRec n) ∧ TxSound (s.txRec n)

theorem RecordsSound.of_obligation {s : State} (h : ContentsSound s ∧ FailureCountsSound s) : RecordsSound s := fun n =>
  ⟨⟨h.1.1 n, (h.2 n).1, (h.2 n).2⟩, h.1.2 n⟩

theorem RecordsSound.to_obligation {s : State} (h : RecordsSound s) : ContentsSound s ∧ FailureCountsSound s :=
  ⟨⟨fun n => (h n).1.bare, fun n => (h n).2⟩, fun n => ⟨(h n).1.suspect, (h n).1.other⟩⟩

theorem RxState.keyed_ne_suspect {st : RxState} (h : st.keyed = false) : st ≠ .suspect := fun hst =>
  Bool.false_ne_true (h.symm.trans (hst ▸ rfl))

theorem RxSound.of_keyed {st : RxState} {c : Contents} {f : List Nat} (hkeyed : st.keyed = true) (hst : st ≠ .suspect)
    (htally : c.tally = 0) : RxSound ⟨st, c, f⟩ :=
  ⟨fun h => absurd (hkeyed.symm.trans h) Bool.true_eq_false.mp, fun h => absurd h hst, fun _ => htally⟩

theorem RxSound.of_zero {st : RxState} (hkeyed : st.keyed = false) (f : List Nat) : RxSound ⟨st, .zero, f⟩ :=
  ⟨fun _ => rfl, fun h => absurd h (RxState.keyed_ne_suspect hkeyed), fun _ => rfl⟩

/-- Contents that keep the failure count keep a keyed record sound. -/
theorem RxSound.of_tally_eq {r : Record RxState} (h : RxSound r) {c : Contents} (hkeyed : r.st.keyed = true)
    (htally : c.tally = r.c.tally) : RxSound ⟨r.st, c, []⟩ :=
  ⟨fun hbare => absurd (hkeyed.symm.trans hbare) Bool.true_eq_false.mp, fun hst => htally ▸ h.suspect hst,
    fun hst => htally ▸ h.other hst⟩

theorem TxState.slotted_ne_free {st : TxState} (h : st.slotted = true) : st ≠ .free := fun hst =>
  Bool.false_ne_true ((hst ▸ rfl : false = st.slotted).trans h)

/-! ## Slots and keys (03 R40 to R43) -/

/-- No transmit context that has a slot holds key `k`. -/
def KeyAbsent (k : Key) (s : State) : Prop := ∀ m, (s.txRec m).st.slotted = true → (s.txRec m).c.key ≠ k

/-- What soundness reads of a transmit record is the same in two records. -/
def SameView (r q : Record TxState) : Prop :=
  r.st.slotted = q.st.slotted ∧ (r.st = .free ↔ q.st = .free) ∧ (q.st.slotted = true → r.c.key = q.c.key)

theorem SameView.of_eq {r q : Record TxState} (h : r = q) : SameView r q := h ▸ ⟨rfl, .rfl, fun _ => rfl⟩

/-- Soundness is read from records, references, slots and free flags alone. -/
theorem TransmitStoreSound.of_tables {s t : State} (h : TransmitStoreSound s) (hview : ∀ n, SameView (t.txRec n) (s.txRec n))
    (href : ∀ n, t.refOf n = s.refOf n) (hslot : ∀ b i, t.slotAt b i = s.slotAt b i)
    (hfree : ∀ n, t.isFree n = s.isFree n) : TransmitStoreSound t := by
  obtain ⟨⟨hslotted, hbare, hfilled⟩, hkeys, hmap⟩ := h
  refine ⟨⟨fun n hn => ?_, fun n hn => (href n).trans (hbare n ((hview n).1 ▸ hn)), fun b i sl hsl => ?_⟩, fun n m hn hm he => ?_,
    fun n => hfree n ▸ (hmap n).trans (hview n).2.1.symm⟩
  · replace hn := (hview n).1 ▸ hn
    rw [(hview n).2.2 hn, href]
    exact (hslotted n hn).imp fun i hi => ⟨hi.1, (hslot _ _).trans hi.2⟩
  · rw [(hview _).1, href]
    exact hfilled b i sl (hslot b i ▸ hsl)
  · replace hn := (hview n).1 ▸ hn
    replace hm := (hview m).1 ▸ hm
    exact hkeys n m hn hm (((hview n).2.2 hn).symm.trans (he.trans ((hview m).2.2 hm)))

/-- In a sound store the slot that a reference names is filled by its context. -/
theorem IndexSound.slot_of_ref {s : State} (h : IndexSound s) {n : Ctx} {b : BitVec 6} {i : Fin 4}
    (href : s.refOf n = some ⟨b, i⟩) : s.slotAt b i = some ⟨n, (s.txRec n).c.key.signature⟩ := by
  cases hs : (s.txRec n).st.slotted with
  | true =>
    obtain ⟨j, hj, hslot⟩ := h.slotted n hs
    obtain ⟨rfl, rfl⟩ := SlotRef.mk.inj (Option.some.inj (hj.symm.trans href))
    exact hslot
  | false => exact absurd ((h.bare n hs).symm.trans href) (Option.some_ne_none _).symm

/-- A record that loses slot and reference and keeps no slotted state leaves the rest sound. -/
theorem TransmitStoreSound.dropped {s t : State} (h : TransmitStoreSound s) {n : Ctx}
    (hbare : (t.txRec n).st.slotted = false) (hother : ∀ k, k ≠ n → t.txRec k = s.txRec k)
    (href : ∀ k, t.refOf k = if k = n then none else s.refOf k)
    (hslot : ∀ b i, t.slotAt b i = if s.refOf n = some ⟨b, i⟩ then none else s.slotAt b i)
    (hfree : ∀ k, t.isFree k = if k = n then decide ((t.txRec n).st = .free) else s.isFree k) : TransmitStoreSound t := by
  obtain ⟨hindex, hkeys, hmap⟩ := h
  have hne : ∀ k, (t.txRec k).st.slotted = true → k ≠ n ∧ t.txRec k = s.txRec k := fun k hk =>
    have hkn : k ≠ n := fun e => Bool.false_ne_true ((e ▸ hbare : (t.txRec k).st.slotted = false).symm.trans hk)
    ⟨hkn, hother k hkn⟩
  refine ⟨⟨fun k hk => ?_, fun k hk => ?_, fun b i sl hsl => ?_⟩, fun k m hk hm hkm => ?_, fun k => ?_⟩
  · obtain ⟨hkn, he⟩ := hne k hk
    rw [he] at hk ⊢
    obtain ⟨i, hi, hsl⟩ := hindex.slotted k hk
    refine ⟨i, (href k).trans ((if_neg hkn).trans hi), (hslot _ _).trans ((if_neg fun hn => hkn ?_).trans hsl)⟩
    exact congrArg Slot.n (Option.some.inj (hsl.symm.trans (hindex.slot_of_ref hn)))
  · rw [href]
    by_cases hkn : k = n
    · exact if_pos hkn
    · exact (if_neg hkn).trans (hindex.bare k (hother k hkn ▸ hk))
  · rw [hslot] at hsl
    by_cases hn : s.refOf n = some ⟨b, i⟩
    · exact absurd ((if_pos hn).symm.trans hsl) (Option.some_ne_none _).symm
    · obtain ⟨hs, hr⟩ := hindex.filled b i sl ((if_neg hn).symm.trans hsl)
      have hkn : sl.n ≠ n := fun e => hn (e ▸ hr)
      exact ⟨hother _ hkn ▸ hs, (href _).trans ((if_neg hkn).trans hr)⟩
  · obtain ⟨-, hk'⟩ := hne k hk
    obtain ⟨-, hm'⟩ := hne m hm
    exact hkeys k m (hk' ▸ hk) (hm' ▸ hm) (hk' ▸ hm' ▸ hkm)
  · rw [hfree]
    by_cases hkn : k = n
    · rw [if_pos hkn, hkn]
      exact decide_eq_true_iff
    · rw [if_neg hkn, hother k hkn]
      exact hmap k

/-- A record without a slot takes an empty slot of its key's bucket, when no context holds the key. -/
theorem TransmitStoreSound.installed {s t : State} (h : TransmitStoreSound s) {n : Ctx} {i : Fin 4} {k : Key}
    (hbare : (s.txRec n).st.slotted = false) (hempty : s.slotAt k.bucket i = none) (habsent : KeyAbsent k s)
    (hnew : (t.txRec n).st.slotted = true) (hkey : (t.txRec n).c.key = k) (hother : ∀ m, m ≠ n → t.txRec m = s.txRec m)
    (href : ∀ m, t.refOf m = if m = n then some ⟨k.bucket, i⟩ else s.refOf m)
    (hslot : ∀ b j, t.slotAt b j = if b = k.bucket ∧ j = i then some ⟨n, k.signature⟩ else s.slotAt b j)
    (hfree : ∀ m, t.isFree m = if m = n then false else s.isFree m) : TransmitStoreSound t := by
  obtain ⟨hindex, hkeys, hmap⟩ := h
  refine ⟨⟨fun m hm => ?_, fun m hm => ?_, fun b j sl hsl => ?_⟩, fun m l hm hl hml => ?_, fun m => ?_⟩
  · by_cases hmn : m = n
    · rw [hmn, hkey]
      exact ⟨i, (href n).trans (if_pos rfl), (hslot _ _).trans (if_pos ⟨rfl, rfl⟩)⟩
    · rw [hother m hmn] at hm ⊢
      refine (hindex.slotted m hm).imp fun j hj => ⟨(href m).trans ((if_neg hmn).trans hj.1), (hslot _ _).trans ((if_neg ?_).trans hj.2)⟩
      rintro ⟨hb, rfl⟩
      exact Option.some_ne_none _ (hj.2.symm.trans (hb ▸ hempty))
  · have hmn : m ≠ n := fun e => Bool.false_ne_true (hm.symm.trans (e ▸ hnew))
    exact (href m).trans ((if_neg hmn).trans (hindex.bare m (hother m hmn ▸ hm)))
  · rw [hslot] at hsl
    by_cases hat : b = k.bucket ∧ j = i
    · obtain rfl := Option.some.inj ((if_pos hat).symm.trans hsl)
      exact ⟨hnew, (href n).trans ((if_pos rfl).trans (hat.1 ▸ hat.2 ▸ rfl))⟩
    · obtain ⟨hs, hr⟩ := hindex.filled b j sl ((if_neg hat).symm.trans hsl)
      have hmn : sl.n ≠ n := fun e => Bool.false_ne_true ((e ▸ hbare : (s.txRec sl.n).st.slotted = false).symm.trans hs)
      exact ⟨hother _ hmn ▸ hs, (href _).trans ((if_neg hmn).trans hr)⟩
  · have hself : ∀ m, (t.txRec m).st.slotted = true → (t.txRec m).c.key = k → m = n := fun m hm hk => by
      by_contra hmn
      rw [hother m hmn] at hm hk
      exact habsent m hm hk
    by_cases hmn : m = n
    · exact hmn.trans (hself l hl (hml.symm.trans (hmn ▸ hkey))).symm
    · by_cases hln : l = n
      · exact (hself m hm (hml.trans (hln ▸ hkey))).trans hln.symm
      · rw [hother m hmn] at hm hml
        rw [hother l hln] at hl hml
        exact hkeys m l hm hl hml
  · rw [hfree]
    by_cases hmn : m = n
    · rw [if_pos hmn, hmn]
      exact iff_of_false Bool.false_ne_true (TxState.slotted_ne_free hnew)
    · rw [if_neg hmn, hother m hmn]
      exact hmap m

end Sys2Proof.Machine

/-! PROOFS. What the store operations keep: records, transmit store and queue stay sound, and in a DEGRADED store no record is made
of a FREE one. -/

namespace Sys2Proof.Machine

/-! ## The queue (06 R103 to R110) -/

theorem QueueSound.of_sublist {p q : List FbEntry} (h : QueueSound q) (hsub : p.Sublist q) : QueueSound p :=
  ⟨hsub.length_le.trans h.1, h.2.sublist (hsub.map _)⟩

/-- An entry of a new number may join a queue of 15 or less. -/
theorem QueueSound.append {q : List FbEntry} {e : FbEntry} (h : QueueSound q) (hroom : q.length < 16)
    (habsent : ∀ x ∈ q, x.n ≠ e.n) : QueueSound (q ++ [e]) := by
  refine ⟨List.length_append ▸ hroom, ?_⟩
  rw [List.map_append]
  refine h.2.append (List.nodup_singleton _) fun n hn he => ?_
  obtain ⟨x, hx, rfl⟩ := List.mem_map.mp hn
  exact habsent x hx (List.mem_singleton.mp he)

/-- An offer keeps a sound queue sound, by the entry it finds for its number and by the room in the queue. -/
theorem QueueSound.offerTo {q : List FbEntry} (h : QueueSound q) (e : FbEntry) : QueueSound (offerTo q e).1 := by
  cases hfound : q.find? (fun x => x.n = e.n) with
  | none =>
    have habsent : ∀ x ∈ q, x.n ≠ e.n := fun x hx => of_decide_eq_false (eq_false_of_ne_true (List.find?_eq_none.mp hfound x hx))
    obtain hroom | hfull := h.1.lt_or_eq
    · exact congrArg Prod.fst (offerTo_of_room habsent hroom) ▸ h.append hroom habsent
    · obtain hdropped | ⟨before, a, after, rfl, hdisplaced⟩ := offerTo_overflow_of_full habsent hfull
      · exact congrArg Prod.fst hdropped ▸ h
      · have hsub : (before ++ after).Sublist (before ++ a :: after) := (List.sublist_cons_self a after).append_left before
        refine congrArg Prod.fst hdisplaced ▸ (h.of_sublist hsub).append ?_ fun x hx => habsent x (hsub.subset hx)
        rw [← hfull, List.length_append, List.length_append]
        exact Nat.lt_succ_self _
  | some old =>
    by_cases hkinds : old.kind = .ack ∧ e.kind = .refresh
    · have hmap : (Machine.offerTo q e).1 = q.map fun x => if x.n = e.n then e else x := by
        rw [Machine.offerTo, hfound]
        exact congrArg Prod.fst (if_pos hkinds)
      have hnumbers : (q.map fun x => if x.n = e.n then e else x).map FbEntry.n = q.map FbEntry.n := by
        rw [List.map_map]
        exact List.map_congr_left fun x _ => ite_keeps (P := fun y : FbEntry => y.n = x.n) Eq.symm fun _ => rfl
      rw [hmap]
      exact ⟨List.length_map (as := q) _ ▸ h.1, hnumbers ▸ h.2⟩
    · exact congrArg Prod.fst (offerTo_of_held_unchanged hfound hkinds) ▸ h

/-! ## What an operation keeps of the store -/

/-- From `s` to `t` records, transmit store and queue stay sound, and in a DEGRADED store no record is made of a FREE one; the
transaction of a LOAD (`load`) may make one. -/
structure TablesKept (load : Prop) (s t : State) : Prop where
  records : RecordsSound s → RecordsSound t
  transmit : TransmitStoreSound s → TransmitStoreSound t
  queue : QueueSound s.fbq → QueueSound t.fbq
  free : ¬ load → s.store.st = .degraded → ∀ n,
    ((s.rxRec n).st = .free → (t.rxRec n).st = .free) ∧ ((s.txRec n).st = .free → (t.txRec n).st = .free)

/-- So it is, and the store stays DEGRADED. -/
structure StoreKept (load : Prop) (s t : State) : Prop where
  tables : TablesKept load s t
  degraded : s.store.st = .degraded → t.store.st = .degraded

/-- The parts of the store that soundness speaks of. -/
noncomputable def Store.tables (t : Store) :
    Table (Record RxState) × Table (Record TxState) × Vector (Vector (Option Slot) 4) 64 × Table (Option SlotRef) × Table Bool :=
  (t.rx, t.tx, t.index, t.refs, t.free)

section
variable {load : Prop} {s t u : State}

theorem TablesKept.of_tables (h : t.store.tables = s.store.tables) (hfbq : QueueSound s.fbq → QueueSound t.fbq) :
    TablesKept load s t := by
  have hrx : ∀ n, t.rxRec n = s.rxRec n := fun n => (congrArg (fun x => x.1.look n) h :)
  have htx : ∀ n, t.txRec n = s.txRec n := fun n => (congrArg (fun x => x.2.1.look n) h :)
  have hslot : ∀ b i, t.slotAt b i = s.slotAt b i := fun b i => 
    (congrArg (fun x => (s.setStore { s.store with index := x.2.2.1 }).slotAt b i) h :)
  exact ⟨fun hs n => hrx n ▸ htx n ▸ hs n, fun hs => hs.of_tables (fun n => .of_eq (htx n))
    (fun n => (congrArg (fun x => x.2.2.2.1.look n) h :)) hslot (fun n => (congrArg (fun x => x.2.2.2.2.look n) h :)),
    hfbq, fun _ _ n => hrx n ▸ htx n ▸ ⟨id, id⟩⟩

theorem TablesKept.trans (hst : TablesKept load s t) (hdeg : s.store.st = .degraded → t.store.st = .degraded)
    (htu : TablesKept load t u) : TablesKept load s u :=
  ⟨htu.records ∘ hst.records, htu.transmit ∘ hst.transmit, htu.queue ∘ hst.queue, fun hl hd n =>
    ⟨(htu.free hl (hdeg hd) n).1 ∘ (hst.free hl hd n).1, (htu.free hl (hdeg hd) n).2 ∘ (hst.free hl hd n).2⟩⟩

/-- What comes after leaves store and queue. -/
theorem TablesKept.andSame (hst : TablesKept load s t) {bs : List Block} (h : OnlyChanges bs t u)
    (hbs : (bs.contains .store || bs.contains .fbq) = false) : TablesKept load s u := by
  obtain ⟨hstore, hfbq⟩ := Bool.or_eq_false_iff.mp hbs
  have hsame : u.store = t.store := h.same .store hstore
  have hq : u.fbq = t.fbq := h.same .fbq hfbq
  have hrest : TablesKept load t u := .of_tables (congrArg _ hsame) fun h => hq ▸ h
  have hrx : ∀ n, u.rxRec n = t.rxRec n := fun n => (congrArg (fun x : Store => x.rx.look n) hsame :)
  have htx : ∀ n, u.txRec n = t.txRec n := fun n => (congrArg (fun x : Store => x.tx.look n) hsame :)
  exact ⟨hrest.records ∘ hst.records, hrest.transmit ∘ hst.transmit, hrest.queue ∘ hst.queue, fun hl hd n =>
    hrx n ▸ htx n ▸ hst.free hl hd n⟩

theorem StoreKept.trans (hst : StoreKept load s t) (htu : StoreKept load t u) : StoreKept load s u :=
  ⟨hst.tables.trans hst.degraded htu.tables, htu.degraded ∘ hst.degraded⟩

/-- Neither the tables nor the queue change. -/
theorem StoreKept.of_same (h : t.store.tables = s.store.tables) (hst : t.store.st = s.store.st) (hfbq : t.fbq = s.fbq) :
    StoreKept load s t := ⟨.of_tables h fun hq => hfbq ▸ hq, fun hd => hst.trans hd⟩

theorem StoreKept.refl (s : State) : StoreKept load s s := .of_same rfl rfl rfl

/-- What comes after leaves store and queue. -/
theorem StoreKept.andSame (hst : StoreKept load s t) {bs : List Block} (h : OnlyChanges bs t u)
    (hbs : (bs.contains .store || bs.contains .fbq) = false) : StoreKept load s u :=
  ⟨hst.tables.andSame h hbs, fun hd =>
    (congrArg Store.st (h.same .store (Bool.or_eq_false_iff.mp hbs).1 : u.store = t.store)).trans (hst.degraded hd)⟩

end

section
variable {load : Prop} {s : State} {n : Ctx}

/-! ## The queue's operations -/

theorem StoreKept.setFbq {q : List FbEntry} (h : QueueSound s.fbq → QueueSound q) : StoreKept load s (s.setFbq q) :=
  ⟨.of_tables rfl h, id⟩

theorem StoreKept.offer (e : FbEntry) (s : State) : StoreKept load s (offer e s) :=
  ite_keeps (fun _ => ⟨.of_tables rfl fun h => h.offerTo e, id⟩) fun _ => .setFbq fun h => h.offerTo e

theorem StoreKept.offerAck (n : Ctx) (s : State) : StoreKept load s (offerAck n s) :=
  ite_keeps (fun _ => .offer _ s) fun _ => .refl s

/-! ## Writes of records -/

theorem writeRx_rxRec_of_ne {st : RxState} {c : Contents} {k : Ctx} (h : k ≠ n) : (writeRx n st c s).rxRec k = s.rxRec k :=
  (rxRec_writeRx ..).trans (if_neg h)

theorem writeTx_txRec_self {st : TxState} {c : Contents} : (writeTx n st c s).txRec n = ⟨st, c, []⟩ :=
  (txRec_writeTx ..).trans (if_pos rfl)

theorem writeTx_txRec_of_ne {st : TxState} {c : Contents} {k : Ctx} (h : k ≠ n) : (writeTx n st c s).txRec k = s.txRec k :=
  (txRec_writeTx ..).trans (if_neg h)

theorem StoreKept.writeRx {st : RxState} {c : Contents} (hsound : RxSound (s.rxRec n) → RxSound ⟨st, c, []⟩)
    (hfree : ¬ load → s.store.st = .degraded → (s.rxRec n).st = .free → st = .free) :
    StoreKept load s (writeRx n st c s) := by
  have hrx := fun k => rxRec_writeRx n k st c s
  revert hrx
  rw [writeRx_eq]
  refine fun hrx => ⟨⟨fun h k => ⟨?_, (h k).2⟩, fun h => ⟨⟨h.index.slotted, h.index.bare, h.index.filled⟩, h.keys, h.free⟩, id,
    fun hl hd k => ⟨?_, id⟩⟩, id⟩
  · exact hrx k ▸ ite_keeps (P := RxSound) (fun _ => hsound (h n).1) fun _ => (h k).1
  · exact hrx k ▸ ite_keeps (P := fun r : Record RxState => (s.rxRec k).st = .free → r.st = .free)
      (fun he hk => hfree hl hd (he ▸ hk)) fun _ => id

theorem StoreKept.freeRx (s : State) (n : Ctx) : StoreKept load s (freeRxRecord n s) :=
  (StoreKept.writeRx (n := n) (fun _ => .of_zero rfl _) fun _ _ _ => rfl).trans
    (.setFbq fun h => h.of_sublist List.filter_sublist)

/-- The records after a write of a transmit record. -/
theorem RecordsSound.writeTx {t : State} (h : RecordsSound s) {st : TxState} {c : Contents} (hrx : ∀ k, t.rxRec k = s.rxRec k)
    (htx : ∀ k, t.txRec k = if k = n then ⟨st, c, []⟩ else s.txRec k) (hsound : TxSound (s.txRec n) → TxSound ⟨st, c, []⟩) :
    RecordsSound t := fun k =>
  ⟨hrx k ▸ (h k).1, htx k ▸ ite_keeps (P := TxSound) (fun _ => hsound (h n).2) fun _ => (h k).2⟩

/-- A transmit record is written with a state of the same kind, and with its key if it has a slot. -/
theorem StoreKept.rewriteTx {st : TxState} {c : Contents} (hview : SameView ⟨st, c, []⟩ (s.txRec n))
    (hsound : TxSound (s.txRec n) → TxSound ⟨st, c, []⟩) : StoreKept load s (writeTx n st c s) := by
  have htx := fun k => txRec_writeTx n k st c s
  revert htx
  rw [writeTx_eq]
  intro htx
  have hviews : ∀ k, SameView (((s.setStore (s.store.withTx n st c)).setStat (s.stat.seesTx n st c)).txRec k) (s.txRec k) :=
    fun k => htx k ▸ ite_keeps (P := fun r => SameView r (s.txRec k)) (fun he => he ▸ hview) fun _ => .of_eq rfl
  exact ⟨⟨fun h => h.writeTx (fun _ => rfl) htx hsound,
    fun h => h.of_tables hviews (fun _ => rfl) (fun _ _ => rfl) fun _ => rfl, id, fun _ _ k => ⟨id, (hviews k).2.1.mpr⟩⟩, id⟩

/-- A transmit record loses its slot and is written without one. -/
theorem StoreKept.dropTx {t : State} {st : TxState} {c : Contents} (hbare : st.slotted = false) (hc : c = .zero)
    (hother : t.store = { s.store with tx := t.store.tx, index := t.store.index, refs := t.store.refs, free := t.store.free })
    (hfbq : t.fbq = s.fbq) (htx : ∀ k, t.txRec k = if k = n then ⟨st, c, []⟩ else s.txRec k)
    (href : ∀ k, t.refOf k = if k = n then none else s.refOf k)
    (hslot : ∀ b i, t.slotAt b i = if s.refOf n = some ⟨b, i⟩ then none else s.slotAt b i)
    (hfree : FreeMapSound s → ∀ k, t.isFree k = if k = n then decide (st = .free) else s.isFree k)
    (hst : (s.txRec n).st = .free → st = .free) : StoreKept load s t := by
  have hrx : ∀ k, t.rxRec k = s.rxRec k := fun k => (congrArg (fun x : Store => x.rx.look k) hother :)
  have hself : (t.txRec n).st = st := congrArg Record.st ((htx n).trans (if_pos rfl))
  refine ⟨⟨fun h => h.writeTx hrx htx fun _ _ => hc, fun h => ?_, fun hq => hfbq ▸ hq, fun _ _ k =>
    ⟨fun hk => (hrx k).symm ▸ hk, fun hk => ?_⟩⟩, fun hd => (congrArg Store.st hother :).trans hd⟩
  · exact h.dropped (hself ▸ hbare) (fun k hk => (htx k).trans (if_neg hk)) href hslot (hself ▸ hfree h.free)
  · exact htx k ▸ ite_keeps (P := fun r : Record TxState => r.st = .free) (fun he => hst (he ▸ hk)) fun _ => hk

/-- A dropped slot changes index and references alone. -/
theorem dropSlot_eq (n : Ctx) (s : State) : ∃ x r, dropSlot n s = s.setStore { s.store with index := x, refs := r } := by
  unfold dropSlot
  induction s.refOf n with
  | none => exact ⟨_, _, rfl⟩
  | some r => exact ⟨_, _, rfl⟩

theorem freeTxRecord_store (n : Ctx) (s : State) : (freeTxRecord n s).store =
    { s.store with
      tx := (freeTxRecord n s).store.tx, index := (freeTxRecord n s).store.index, refs := (freeTxRecord n s).store.refs
      free := (freeTxRecord n s).store.free } := by
  obtain ⟨x, r, hdrop⟩ := dropSlot_eq n s
  rw [freeTxRecord, hdrop, writeTx_eq]
  rfl

theorem StoreKept.freeTx (s : State) (n : Ctx) : StoreKept load s (freeTxRecord n s) :=
  .dropTx rfl rfl (freeTxRecord_store n s) ((onlyChanges_of_frame [.store, .stat] (freeTxRecord_frame n s)).same .fbq rfl)
    (freeTxRecord_txRec n · s) (freeTxRecord_refOf n · s) (freeTxRecord_slotAt n · · s) (fun _ => (freeTxRecord_isFree n · s))
    fun _ => rfl

end

end Sys2Proof.Machine

/-! PROOFS. Contexts opened and evicted, checked reads, the search and the candidate reads: what they keep of the store. -/

namespace Sys2Proof.Machine

section
variable {load : Prop} {s : State} {n : Ctx}

/-! ## Slots taken (05 R88, R95) -/

/-- A record is written with a slotted state, in a store that is not DEGRADED or for a LOAD. -/
theorem StoreKept.takeSlot {s0 t : State} (hs : StoreKept load s0 s) {st : TxState} {c : Contents} (hnew : st.slotted = true)
    (hload : load ∨ s.store.st ≠ .degraded) (hrx : ∀ k, t.rxRec k = s.rxRec k)
    (htx : ∀ k, t.txRec k = if k = n then ⟨st, c, []⟩ else s.txRec k) (hst : t.store.st = s.store.st) (hfbq : t.fbq = s.fbq)
    (hsound : TransmitStoreSound s0 → TransmitStoreSound s → (t.txRec n).st.slotted = true → (t.txRec n).c = c →
      (∀ k, k ≠ n → t.txRec k = s.txRec k) → TransmitStoreSound t) : StoreKept load s0 t := by
  have hself : t.txRec n = ⟨st, c, []⟩ := (htx n).trans (if_pos rfl)
  exact ⟨⟨fun h => (hs.tables.records h).writeTx hrx htx fun _ hb => absurd (hb.symm.trans hnew) Bool.false_ne_true,
    fun h => hsound h (hs.tables.transmit h) (hself ▸ hnew) (hself ▸ rfl) fun k hk => (htx k).trans (if_neg hk),
    fun h => hfbq ▸ hs.tables.queue h, fun hl hd => absurd (hs.degraded hd) (hload.resolve_left hl)⟩,
    fun hd => hst.trans (hs.degraded hd)⟩

/-- A record without a slot is written with an empty slot of its key's bucket. -/
theorem StoreKept.install {s0 : State} (hs : StoreKept load s0 s) {i : Fin 4} {st : TxState} {c : Contents}
    (hempty : s.slotAt c.key.bucket i = none) (hbare : TransmitStoreSound s → (s.txRec n).st.slotted = false)
    (habsent : TransmitStoreSound s0 → KeyAbsent c.key s) (hnew : st.slotted = true)
    (hload : load ∨ s.store.st ≠ .degraded) :
    StoreKept load s0 (writeTx n st c (fillSlot n c.key.bucket i c.key.signature s)) := by
  refine hs.takeSlot hnew hload (fun _ => writeTx_rxRec ..) (fun k => txRec_writeTx n k st c _) (congrArg Store.st (writeTx_store _ st c _) :)
    ((onlyChanges_of_frame [.store, .stat] (writeTx_frame ..)).same .fbq rfl) fun h0 h hslotted hc hother => ?_
  exact h.installed (hbare h) hempty (habsent h0) hslotted (congrArg _ hc) hother
    (fun m => (writeTx_refOf ..).trans (fillSlot_refOf n m _ i _ s)) (fun b j => (writeTx_slotAt ..).trans (fillSlot_slotAt n _ b i j _ s))
    fun m => (writeTx_isFree ..).trans (fillSlot_isFree n m _ i _ s)

/-- The context of a filled slot gives it to a new key of the same bucket: as if it lost the slot and took it again. -/
theorem StoreKept.evict {s0 : State} (hs : StoreKept load s0 s) {i : Fin 4} {sl : Slot} {st : TxState} {c : Contents}
    (hfull : s.slotAt c.key.bucket i = some sl) (habsent : TransmitStoreSound s0 → KeyAbsent c.key s)
    (hnew : st.slotted = true) (hready : s.store.st ≠ .degraded) :
    StoreKept load s0 (writeTx sl.n st c (setSlot c.key.bucket i (some ⟨sl.n, c.key.signature⟩) s)) := by
  refine hs.takeSlot hnew (.inr hready) (fun _ => writeTx_rxRec ..) (fun k => txRec_writeTx sl.n k st c _)
    (congrArg Store.st (writeTx_store _ st c _) :) ((onlyChanges_of_frame [.store, .stat] (writeTx_frame ..)).same .fbq rfl)
    fun h0 h hslotted hc hother => ?_
  obtain ⟨hold, hvref⟩ := h.index.filled _ i sl hfull
  have hfreed : ∀ k, k ≠ sl.n → (freeTxRecord sl.n s).txRec k = s.txRec k := fun k hk => (freeTxRecord_txRec ..).trans (if_neg hk)
  have hbare : ((freeTxRecord sl.n s).txRec sl.n).st.slotted = false :=
    congrArg (fun r : Record TxState => r.st.slotted) ((freeTxRecord_txRec ..).trans (if_pos rfl))
  refine ((StoreKept.freeTx (load := load) s sl.n).tables.transmit h).installed (n := sl.n) (i := i) (k := c.key) hbare
    ((freeTxRecord_slotAt ..).trans (if_pos hvref)) (fun m hm => ?_) hslotted (congrArg _ hc)
    (fun k hk => (hother k hk).trans (hfreed k hk).symm) (fun k => ?_) (fun b j => ?_) fun k => ?_
  · have hmn : m ≠ sl.n := fun e => Bool.false_ne_true (hbare.symm.trans (e ▸ hm))
    exact hfreed m hmn ▸ habsent h0 m (hfreed m hmn ▸ hm)
  · rw [writeTx_refOf, freeTxRecord_refOf]
    by_cases hk : k = sl.n
    · exact (hk ▸ hvref).trans (if_pos hk).symm
    · exact ((if_neg hk).trans (if_neg hk)).symm
  · rw [writeTx_slotAt]
    refine (setSlot_slotAt ..).trans (ite_congr rfl (fun _ => rfl) fun hne => ?_)
    refine ((freeTxRecord_slotAt ..).trans (if_neg fun hr => hne ?_)).symm
    obtain ⟨hb, hj⟩ := SlotRef.mk.inj (Option.some.inj (hvref.symm.trans hr))
    exact ⟨hb.symm, hj.symm⟩
  · rw [writeTx_isFree, freeTxRecord_isFree]
    by_cases hk : k = sl.n
    · refine (eq_false_of_ne_true fun hfree => TxState.slotted_ne_free hold ?_).trans (if_pos hk).symm
      exact (h.free _).mp (hk ▸ hfree)
    · exact ((if_neg hk).trans (if_neg hk)).symm

/-! ## Checked reads (03 R48 to R58) -/

theorem StoreKept.noteCorrected (d : Dir) (q : Requester) (s : State) : StoreKept load s (noteCorrected d n q s) := by
  obtain ⟨c, l, hreport⟩ := reportError_eq_setStore ⟨false, d, n, q⟩ (setEvent .eccCorrected (raise .eccCorr s))
  unfold Machine.noteCorrected
  rw [hreport]
  exact .of_same rfl rfl rfl

theorem StoreKept.noteUncorrected (d : Dir) (q : Requester) (s : State) : StoreKept load s (noteUncorrected d n q s) := by
  unfold Machine.noteUncorrected
  dsimp only
  generalize hs1 : State.setStore _ _ = s1
  have hcount : StoreKept load s s1 := hs1 ▸ .of_same rfl rfl rfl
  have hdegrade : StoreKept load s1 (degrade s1) := ite_keeps (fun hr => ⟨.of_tables rfl id, fun _ => rfl⟩) fun _ => .refl s1
  refine hcount.trans (.trans (t := if s1.mustDegrade then degrade s1 else s1) (ite_keeps (fun _ => hdegrade) fun _ => .refl s1) ?_)
  obtain ⟨c, l, hreport⟩ := reportError_eq_setStore ⟨true, d, n, q⟩ (if s1.mustDegrade then degrade s1 else s1)
  rw [hreport]
  exact .of_same rfl rfl rfl

theorem StoreKept.readRx (q : Requester) (n : Ctx) (s : State) : StoreKept load s (readRx q n s) := by
  have hdamaged : StoreKept load s (Machine.writeRx n (if (s.rxRec n).st = .free then .free else .damaged) .zero s) :=
    .writeRx (fun _ => ite_keeps (P := fun st => RxSound ⟨st, .zero, []⟩) (fun _ => .of_zero rfl _) fun _ => .of_zero rfl _)
      fun _ _ hfree => if_pos hfree
  unfold Machine.readRx
  dsimp only
  induction (s.rxRec n).flips with
  | nil => exact .andSame (.refl s) (onlyChanges_of_frame [.stat] (monitorRx_frame n s)) rfl
  | cons b bs _ =>
    induction bs with
    | nil =>
      exact (StoreKept.writeRx (fun h => ⟨h.bare, h.suspect, h.other⟩) fun _ _ h => h).trans (.noteCorrected ..)
    | cons _ _ _ => exact hdamaged.trans (.noteUncorrected ..)

theorem StoreKept.readTx (q : Requester) (n : Ctx) (s : State) : StoreKept load s (readTx q n s) := by
  have hdamaged : StoreKept load s
      (if (s.txRec n).st.slotted then Machine.writeTx n .damaged .zero (dropSlot n s) else Machine.writeTx n (s.txRec n).st .zero s) := by
    refine ite_keeps (fun hs => ?_) fun hs => .rewriteTx ⟨rfl, .rfl, fun h => absurd h hs⟩ fun _ _ => rfl
    obtain ⟨x, r, hdrop⟩ := dropSlot_eq n s
    have hstore := writeTx_eq n .damaged .zero (dropSlot n s)
    rw [hdrop] at hstore
    refine .dropTx (n := n) (st := .damaged) rfl rfl (hdrop ▸ hstore ▸ rfl) (hdrop ▸ hstore ▸ rfl)
      (fun k => (txRec_writeTx ..).trans (dropSlot_txRec n k s ▸ rfl)) (fun k => (writeTx_refOf ..).trans (dropSlot_refOf n k s))
      (fun b i => (writeTx_slotAt ..).trans (dropSlot_slotAt n b i s)) (fun hmap k => ?_) fun hfree => absurd hfree (TxState.slotted_ne_free hs)
    refine (writeTx_isFree ..).trans ((dropSlot_isFree n k s).trans ?_)
    by_cases hk : k = n
    · refine (eq_false_of_ne_true fun hfree => TxState.slotted_ne_free hs ?_).trans (if_pos hk).symm
      exact (hmap n).mp (hk ▸ hfree)
    · exact (if_neg hk).symm
  unfold Machine.readTx
  dsimp only
  induction (s.txRec n).flips with
  | nil => exact .andSame (.refl s) (onlyChanges_of_frame [.stat] (monitorTx_frame n s)) rfl
  | cons b bs _ =>
    induction bs with
    | nil => exact (StoreKept.rewriteTx ⟨rfl, .rfl, fun _ => rfl⟩ id).trans (.noteCorrected ..)
    | cons _ _ _ => exact hdamaged.trans (.noteUncorrected ..)

end

end Sys2Proof.Machine

/-! PROOFS. The search and the take, and the transactions of the Expander, the Age Sweep and the Command Unit: what they keep of
the store. -/

namespace Sys2Proof.Machine

/-! ## The search (05 R86) -/

/-- A checked read gives no record a slot or a key. -/
theorem readTx_slotted {q : Requester} {n m : Ctx} {s : State} (h : ((readTx q n s).txRec m).st.slotted = true) :
    (s.txRec m).st.slotted = true ∧ ((readTx q n s).txRec m).c.key = (s.txRec m).c.key := by
  have hback : ∀ r : Record TxState, r.readTxBack.st.slotted = true → r.st.slotted = true ∧ r.readTxBack.c.key = r.c.key := fun r =>
    ite_keeps (P := fun b : Record TxState => b.st.slotted = true → r.st.slotted = true ∧ b.c.key = r.c.key)
      (fun _ => ite_keeps (P := fun st : TxState => st.slotted = true → _) (fun _ hd => absurd hd Bool.false_ne_true)
        fun hn hs => absurd hs hn) fun _ hs => ⟨hs, rfl⟩
  rw [readTx_txRec] at h ⊢
  by_cases hm : m = n
  · rw [if_pos hm] at h ⊢
    rw [hm]
    exact hback _ h
  · rw [if_neg hm] at h ⊢
    exact ⟨h, rfl⟩

theorem readTx_slot {q : Requester} {n : Ctx} {s : State} {b : BitVec 6} {j : Fin 4} {sl : Slot}
    (h : (readTx q n s).slotAt b j = some sl) : s.slotAt b j = some sl := by
  rw [readTx_slotAt] at h
  by_cases hd : s.dropsSlot n = true ∧ s.refOf n = some ⟨b, j⟩
  · exact absurd ((if_pos hd).symm.trans h) (Option.some_ne_none _).symm
  · exact (if_neg hd).symm.trans h

theorem KeyAbsent.readTx {k : Key} {s : State} (h : KeyAbsent k s) (q : Requester) (n : Ctx) : KeyAbsent k (readTx q n s) :=
  fun m hm hk => h m (readTx_slotted hm).1 ((readTx_slotted hm).2.symm.trans hk)

/-- Outside the slots `is` of its bucket no context holds key `k`. -/
def PassedOver (k : Key) (is : List (Fin 4)) (s : State) : Prop :=
  ∀ j ∉ is, ∀ sl, s.slotAt k.bucket j = some sl →
    ¬ (sl.sig = k.signature ∧ (s.txRec sl.n).st.slotted = true ∧ (s.txRec sl.n).c.key = k)

theorem PassedOver.readTx {k : Key} {is : List (Fin 4)} {s : State} (h : PassedOver k is s) (q : Requester) (n : Ctx) :
    PassedOver k is (readTx q n s) := fun j hj sl hsl ⟨hsig, hm, hk⟩ =>
  h j hj sl (readTx_slot hsl) ⟨hsig, (readTx_slotted hm).1, (readTx_slotted hm).2.symm.trans hk⟩

theorem PassedOver.tail {k : Key} {i : Fin 4} {is : List (Fin 4)} {s : State} (h : PassedOver k (i :: is) s)
    (hi : ∀ sl, s.slotAt k.bucket i = some sl →
      ¬ (sl.sig = k.signature ∧ (s.txRec sl.n).st.slotted = true ∧ (s.txRec sl.n).c.key = k)) : PassedOver k is s :=
  fun j hj => (eq_or_ne j i).elim (fun e => e ▸ hi) fun hne => h j (List.not_mem_cons_of_ne_of_not_mem hne hj)

/-- In a sound store a key passed over in all its slots is absent. -/
theorem PassedOver.keyAbsent {k : Key} {s : State} (hsound : TransmitStoreSound s) (h : PassedOver k [] s) : KeyAbsent k s :=
  fun m hm hk => by
    obtain ⟨i, -, hslot⟩ := hsound.index.slotted m hm
    rw [hk] at hslot
    exact h i List.not_mem_nil _ hslot ⟨rfl, hm, hk⟩

section
variable {load : Prop} {q : Requester} {k : Key}

/-- What a search of the slots `is` of `s` answers. -/
structure Searched (load : Prop) (k : Key) (is : List (Fin 4)) (s : State) (x : State × Option Ctx) : Prop where
  kept : StoreKept load s x.1
  slotted : ∀ m, (x.1.txRec m).st.slotted = true → (s.txRec m).st.slotted = true
  passedOver : PassedOver k is s → x.2 = none → PassedOver k [] x.1

theorem searchSlots_searched (is : List (Fin 4)) (s : State) : Searched load k is s (searchSlots q k is s) := by
  induction is generalizing s with
  | nil => exact ⟨.refl s, fun _ => id, fun h _ => h⟩
  | cons i is ih =>
    have hskip : (∀ sl, s.slotAt k.bucket i = some sl → sl.sig ≠ k.signature) →
        Searched load k (i :: is) s (searchSlots q k is s) := fun hi =>
      ⟨(ih s).kept, (ih s).slotted, fun h => (ih s).passedOver (h.tail fun sl hsl hall => hi sl hsl hall.1)⟩
    unfold searchSlots
    cases hslot : s.slotAt k.bucket i with
    | none => exact hskip fun sl hsl => absurd (hslot.symm.trans hsl) (Option.some_ne_none _).symm
    | some sl =>
      refine ite_keeps (P := Searched load k (i :: is) s) (fun _ => ?_)
        fun hsig => hskip fun x hx => Option.some.inj (hslot.symm.trans hx) ▸ hsig
      have hread := StoreKept.readTx (load := load) q sl.n s
      refine ite_keeps (P := Searched load k (i :: is) s) (fun _ => ⟨hread, fun _ hm => (readTx_slotted hm).1,
        fun _ h => absurd h (Option.some_ne_none _)⟩) fun hmiss => ?_
      obtain ⟨hkept, hslotted, hpassed⟩ := ih (readTx q sl.n s)
      refine ⟨hread.trans hkept, fun m hm => (readTx_slotted (hslotted m hm)).1, fun h => hpassed ((h.readTx q sl.n).tail fun x hx hall => hmiss ?_)⟩
      exact Option.some.inj (hslot.symm.trans (readTx_slot hx)) ▸ hall.2

theorem search_searched (s : State) : Searched load k [0, 1, 2, 3] s (search q k s) := searchSlots_searched _ s

/-- After a search without a match no context with a slot holds the key. -/
theorem Searched.keyAbsent {s : State} {x : State × Option Ctx} (h : Searched load k [0, 1, 2, 3] s x) (hnone : x.2 = none)
    (hsound : TransmitStoreSound s) : KeyAbsent k x.1 :=
  (h.passedOver (fun j hj => absurd (by revert j; decide) hj) hnone).keyAbsent (h.kept.tables.transmit hsound)

theorem readCandidates_keeps (is : List (Fin 4)) (s : State) :
    StoreKept load s (readCandidates k is s) ∧ (KeyAbsent k s → KeyAbsent k (readCandidates k is s)) := by
  induction is generalizing s with
  | nil => exact ⟨.refl s, id⟩
  | cons i is ih =>
    unfold readCandidates
    induction s.slotAt k.bucket i with
    | none => exact ih s
    | some sl =>
      exact ⟨(ite_keeps (P := StoreKept load s) (fun _ => .refl s) fun _ => .readTx .compressor sl.n s).trans (ih _).1,
        fun h => (ih _).2 (ite_keeps (P := KeyAbsent k) (fun _ => h) fun _ => h.readTx .compressor sl.n)⟩

end

/-! ## The take (05 R85 to R96) -/

section
variable {load : Prop} {s : State}

theorem stateAfterFull_slotted (o : BitVec 3) {st : TxState} (h : st.slotted = true) (v : BitVec 3) :
    (stateAfterFull o st v).slotted = true := by
  have hchoice : (if o ≠ 0 ∧ o ≤ v then TxState.opened else .opening).slotted = true :=
    ite_keeps (P := fun st : TxState => st.slotted = true) (fun _ => rfl) fun _ => rfl
  induction st with
  | opening | refreshing => exact hchoice
  | _ => exact h

theorem SameView.of_slotted {st : TxState} {c : Contents} {r : Record TxState} (hst : st.slotted = true)
    (hr : r.st.slotted = true) (hkey : c.key = r.c.key) : SameView ⟨st, c, []⟩ r :=
  ⟨hst.trans hr.symm, iff_of_false (TxState.slotted_ne_free hst) (TxState.slotted_ne_free hr), fun _ => hkey⟩

/-- A record with a slot written with a state that has one, and with its key. -/
theorem StoreKept.rewriteSlotted {n : Ctx} {st : TxState} {c : Contents} (hr : (s.txRec n).st.slotted = true)
    (hst : st.slotted = true) (hkey : c.key = (s.txRec n).c.key) : StoreKept load s (writeTx n st c s) :=
  .rewriteTx (.of_slotted hst hr hkey) fun _ hb => absurd (hb.symm.trans hst) Bool.false_ne_true

theorem StoreKept.sendFrom {n : Ctx} (m : Message) (hslotted : (s.txRec n).st.slotted = true) :
    StoreKept load s (sendFrom n m s).1 := by
  unfold Machine.sendFrom
  dsimp only
  generalize (if (s.txRec n).st = .opened then _ else FrameChoice.full) = choice
  induction choice with
  | full => exact .rewriteSlotted hslotted (stateAfterFull_slotted _ hslotted _) rfl
  | _ => exact .rewriteSlotted hslotted hslotted rfl

theorem lowestFree_isFree {n : Ctx} (h : s.lowestFree = some n) : s.isFree n = true := by
  obtain ⟨i, hi, rfl⟩ := Option.map_eq_some_iff.mp h
  exact (List.find?_some (p := fun i => s.isFree (BitVec.ofNat 8 i)) hi :)

theorem emptySlot_slotAt {b : BitVec 6} {i : Fin 4} (h : s.emptySlot b = some i) : s.slotAt b i = none :=
  Option.isNone_iff_eq_none.mp (List.find?_some (p := fun i => (s.slotAt b i).isNone) h)

theorem opening_spec {b : BitVec 6} {p : Ctx × Fin 4} (h : s.opening b = some p) :
    s.isFree p.1 = true ∧ s.slotAt b p.2 = none := by
  unfold State.opening at h
  cases hn : s.lowestFree with
  | none => rw [hn] at h; exact absurd h (Option.some_ne_none _).symm
  | some n =>
    cases hi : s.emptySlot b with
    | none => rw [hn, hi] at h; exact absurd h (Option.some_ne_none _).symm
    | some i =>
      rw [hn, hi] at h
      exact Option.some.inj h ▸ ⟨lowestFree_isFree hn, emptySlot_slotAt hi⟩

theorem StoreKept.openContext {s0 : State} (hs : StoreKept load s0 s) {m : Message} {p : Ctx × Fin 4}
    (hopen : s.opening (Header.ofBytes m).key.bucket = some p)
    (habsent : TransmitStoreSound s0 → KeyAbsent (Header.ofBytes m).key s) (hready : s.store.st ≠ .degraded) :
    StoreKept load s0 (openContext p.1 p.2 m s).1 := by
  obtain ⟨hfree, hempty⟩ := opening_spec hopen
  exact hs.install (c := { sentContents (freshContents (Header.ofBytes m)) (Header.ofBytes m) 0 with tally := satInc 0 })
    hempty (fun h => ((h.free p.1).mp hfree).symm ▸ rfl) habsent
    (stateAfterFull_slotted _ (st := .opening) rfl _) (.inr hready)

/-- What a victim found so far names: the context of a filled slot. -/
def NamesSlot (s : State) (b : BitVec 6) (x : Option (Fin 4 × Ctx)) : Prop :=
  ∀ v, x = some v → ∃ sl, s.slotAt b v.1 = some sl ∧ sl.n = v.2

theorem betterVictim_namesSlot {b : BitVec 6} {best : Option (Fin 4 × Ctx)} (i : Fin 4) (h : NamesSlot s b best) :
    NamesSlot s b (s.betterVictim b best i) := by
  unfold State.betterVictim
  cases hi : s.slotAt b i with
  | none => exact h
  | some sl =>
    have hnew : NamesSlot s b (some (i, sl.n)) := fun v hv => Option.some.inj hv ▸ ⟨sl, hi, rfl⟩
    refine ite_keeps (P := NamesSlot s b) (fun _ => h) fun _ => ?_
    induction best with
    | none => exact hnew
    | some w => exact ite_keeps (P := NamesSlot s b) (fun _ => hnew) fun _ => h

theorem victim_namesSlot (b : BitVec 6) : NamesSlot s b (s.victim b) :=
  betterVictim_namesSlot 3 <| betterVictim_namesSlot 2 <| betterVictim_namesSlot 1 <| betterVictim_namesSlot 0 fun _ h =>
    absurd h (Option.some_ne_none _).symm

theorem StoreKept.evictVictim {s0 : State} (hs : StoreKept load s0 s) {m : Message} {v : Fin 4 × Ctx}
    (hv : s.victim (Header.ofBytes m).key.bucket = some v)
    (habsent : TransmitStoreSound s0 → KeyAbsent (Header.ofBytes m).key s) (hready : s.store.st ≠ .degraded) :
    StoreKept load s0 (Machine.evict v.1 v.2 m s).1 := by
  obtain ⟨sl, hslot, hn⟩ := victim_namesSlot _ v hv
  have hraise : StoreKept load s0 (raise .txEvict s) := hs.trans (.of_same rfl rfl rfl)
  rw [← hn]
  exact hraise.evict (i := v.1) (sl := sl)
    (c := { sentContents (freshContents (Header.ofBytes m)) (Header.ofBytes m) 0 with tally := satInc 0 }) hslot habsent
    (stateAfterFull_slotted _ (st := .opening) rfl _) hready

theorem StoreKept.sendRaw {s0 : State} (hs : StoreKept load s0 s) (m : Message) : StoreKept load s0 (sendRaw m s).1 :=
  hs.trans (.of_same rfl rfl rfl)

theorem StoreKept.afterCandidates {s0 : State} (hs : StoreKept load s0 s) {m : Message}
    (habsent : TransmitStoreSound s0 → KeyAbsent (Header.ofBytes m).key s) : StoreKept load s0 (afterCandidates m s).1 := by
  refine ite_keeps (P := fun x : State × Built => StoreKept load s0 x.1) (fun _ => hs.sendRaw m) fun hready => ?_
  cases hopen : s.opening (Header.ofBytes m).key.bucket with
  | some p => exact hs.openContext hopen habsent hready
  | none =>
    cases hv : s.victim (Header.ofBytes m).key.bucket with
    | some v => exact hs.evictVictim hv habsent hready
    | none => exact hs.sendRaw m

theorem StoreKept.noMatch {s0 : State} (hs : StoreKept load s0 s) {m : Message}
    (habsent : TransmitStoreSound s0 → KeyAbsent (Header.ofBytes m).key s) : StoreKept load s0 (noMatch m s).1 := by
  refine ite_keeps (P := fun x : State × Built => StoreKept load s0 x.1) (fun _ => hs.sendRaw m) fun hready => ?_
  cases hopen : s.opening (Header.ofBytes m).key.bucket with
  | some p => exact hs.openContext hopen habsent hready
  | none =>
    obtain ⟨hcand, hkeep⟩ := readCandidates_keeps (load := load) (k := (Header.ofBytes m).key) [0, 1, 2, 3] s
    exact (hs.trans hcand).afterCandidates (hkeep ∘ habsent)

theorem StoreKept.takeMessage (m : Message) (s : State) : StoreKept load s (takeMessage m s).1 := by
  have hsearch := search_searched (load := load) (q := .compressor) (k := (Header.ofBytes m).key) s
  unfold Machine.takeMessage
  cases hfound : Machine.search .compressor (Header.ofBytes m).key s with | mk s1 found
  rw [hfound] at hsearch
  induction found with
  | none => exact hsearch.kept.noMatch (hsearch.keyAbsent rfl)
  | some n => exact hsearch.kept.trans (.sendFrom m (searchSlots_match _ hfound).1)

end

end Sys2Proof.Machine

/-! PROOFS. The transactions of the Expander, the Age Sweep and the Command Unit, row by row: what every command keeps of the store
and of the queue. -/

namespace Sys2Proof.Machine

section
variable {load : Prop}

/-! ## Frames received (04 R67 to R82) -/

theorem StoreKept.fullTransaction (n : Ctx) (h : Header) (stride : Half) (p : List Byte) (s : State) :
    StoreKept load s (fullTransaction n h stride p s).1 := by
  rw [fullTransaction_eq]
  have hread : StoreKept load s (raise .expFull (Machine.readRx .expander n s)) :=
    (StoreKept.readRx .expander n s).trans (.of_same rfl rfl rfl)
  dsimp only
  generalize raise .expFull (Machine.readRx .expander n s) = u at hread
  refine ite_keeps (P := fun x : State × RxEntry => StoreKept load s x.1) (fun _ => hread) fun hstored => hread.trans ?_
  have hwrite : StoreKept load u (Machine.writeRx n .live (storedOver (u.rxRec n) h stride) u) :=
    .writeRx (fun _ => .of_keyed rfl (by decide) rfl) fun _ hd hf => absurd ⟨hf, hd⟩ hstored
  have hcount : StoreKept load u (if (u.rxRec n).st = .free then raise .ctxCreatedRx (Machine.writeRx n .live (storedOver (u.rxRec n) h stride) u)
      else Machine.writeRx n .live (storedOver (u.rxRec n) h stride) u) :=
    ite_keeps (fun _ => hwrite.trans (.of_same rfl rfl rfl)) fun _ => hwrite
  exact (hcount.trans (.offerAck n _) :)

/-- A failure count below the limit rises to 6 at most. -/
theorem tally_succ {c l : BitVec 3} (h : ¬ l.toNat ≤ c.toNat + 1) : 1 ≤ (c + 1).toNat ∧ (c + 1).toNat ≤ 6 := by
  revert c l
  decide

theorem StoreKept.checkFails {n : Ctx} {s : State} (hst : (s.rxRec n).st = .live ∨ (s.rxRec n).st = .suspect) :
    StoreKept load s (checkFails n (s.rxRec n).st (s.rxRec n).c s) := by
  have hnotFree : ∀ {p : Prop}, (s.rxRec n).st = .free → p := fun hf => by
    rw [hf] at hst
    exact absurd hst (by decide)
  have hraise : StoreKept load s (raise .checkFail s) := .of_same rfl rfl rfl
  refine ite_keeps (P := StoreKept load s) (fun _ => hraise.trans ?_) fun hbelow => hraise.trans ?_
  · have hlost : StoreKept load (raise .checkFail s)
        (setEvent .contextLost (Machine.writeRx n .lost { (s.rxRec n).c with tally := 0 } (raise .checkFail s))) :=
      .trans (.writeRx (fun _ => .of_keyed rfl (by decide) rfl) fun _ _ => hnotFree) (.of_same rfl rfl rfl)
    exact hlost.trans (.offer ⟨.refresh, n⟩ _)
  · rw [if_pos hst]
    exact .writeRx (fun _ => ⟨fun h => absurd h.symm Bool.false_ne_true, fun _ => tally_succ hbelow, fun h => absurd rfl h⟩) fun _ _ => hnotFree

theorem StoreKept.noContext (n : Ctx) (s : State) : StoreKept load s (noContext n s) :=
  StoreKept.trans (t := raise .discardNoContext s) (.of_same rfl rfl rfl) (.offer ⟨.refresh, n⟩ _)

theorem StoreKept.accept {n : Ctx} {s : State} {c : Contents} (hst : (s.rxRec n).st = .live ∨ (s.rxRec n).st = .suspect)
    (hc : c.tally = 0) : StoreKept load s (Machine.writeRx n .live c s) :=
  .writeRx (fun _ => .of_keyed rfl (by decide) hc) fun _ _ hf => by
    rw [hf] at hst
    exact absurd hst (by decide)

theorem StoreKept.deltaTransaction (n : Ctx) (d : Nat) (r : Int) (stride : Option Half) (check : BitVec 7) (p : List Byte)
    (s : State) : StoreKept load s (deltaTransaction n d r stride check p s).1 := by
  have hread := StoreKept.readRx (load := load) .expander n s
  unfold Machine.deltaTransaction
  dsimp only
  generalize Machine.readRx .expander n s = u at hread
  refine ite_keeps (P := fun x : State × Option RxEntry => StoreKept load s x.1) (fun hst => ?_) fun _ => hread.trans (.noContext n u)
  exact ite_keeps (P := fun x : State × Option RxEntry => StoreKept load s x.1)
    (fun _ => (hread.trans (.accept hst rfl)).trans (.of_same rfl rfl rfl)) fun _ => hread.trans (.checkFails hst)

theorem StoreKept.briefTransaction (n : Ctx) (check : BitVec 7) (p : List Byte) (s : State) :
    StoreKept load s (briefTransaction n check p s).1 := by
  have hread := StoreKept.readRx (load := load) .expander n s
  unfold Machine.briefTransaction
  dsimp only
  generalize Machine.readRx .expander n s = u at hread
  refine ite_keeps (P := fun x : State × Option RxEntry => StoreKept load s x.1) (fun hst => ?_) fun _ => hread.trans (.noContext n u)
  induction firstHypothesis _ _ _ _ _ with
  | none => exact hread.trans (.checkFails hst)
  | some k =>
    have haccept : StoreKept load s (raise .expBrief (Machine.writeRx n .live
        (acceptedContents (u.rxRec n).c (briefHeader (u.rxRec n).c k p) (u.rxRec n).c.stride) u)) :=
      (hread.trans (.accept hst rfl)).trans (.of_same rfl rfl rfl)
    exact ite_keeps (P := StoreKept load s) (fun _ => haccept.trans (.of_same rfl rfl rfl)) fun _ => haccept

theorem StoreKept.makeRefreshing (n : Ctx) (s : State) : StoreKept load s (makeRefreshing n s) :=
  ite_keeps (fun hst => .rewriteSlotted (hst.elim (fun e => e ▸ rfl) fun e => e ▸ rfl) rfl rfl) fun _ => .refl s

theorem StoreKept.ackEntry (n : Ctx) (s : State) : StoreKept load s (ackEntry n s) :=
  have hread := StoreKept.readTx (load := load) .expander n s
  ite_keeps (fun hst => hread.trans (.rewriteSlotted (congrArg TxState.slotted hst) rfl rfl)) fun _ => hread

theorem StoreKept.refreshEntry (n : Ctx) (s : State) : StoreKept load s (refreshEntry n s) :=
  have hread := StoreKept.readTx (load := load) .expander n s
  ite_keeps (fun _ => hread.trans (.makeRefreshing n _)) fun _ => hread.trans (.of_same rfl rfl rfl)

/-! ## Visits of the Age Sweep (09 R145 to R148) -/

/-- A record with a key written with its state and its failure count. -/
theorem StoreKept.rewriteRx {n : Ctx} {s : State} {c : Contents} (hkeyed : (s.rxRec n).st.keyed = true)
    (hc : c.tally = (s.rxRec n).c.tally) : StoreKept load s (Machine.writeRx n (s.rxRec n).st c s) :=
  .writeRx (fun h => h.of_tally_eq hkeyed hc) fun _ _ => id

theorem StoreKept.visit (i : BitVec 9) (s : State) : StoreKept load s (visit i s) := by
  refine ite_keeps (fun _ => ?_) fun _ => ?_
  · have hread := StoreKept.readTx (load := load) .sweep (i.setWidth 8) s
    exact ite_keeps (fun hs => hread.trans (ite_keeps (P := StoreKept load _)
      (fun _ => (StoreKept.freeTx _ _).trans (.of_same rfl rfl rfl)) fun _ => .rewriteSlotted hs hs rfl)) fun _ => hread
  · have hread := StoreKept.readRx (load := load) .sweep (i.setWidth 8) s
    refine ite_keeps (fun hk => hread.trans (ite_keeps (P := StoreKept load _)
      (fun _ => (StoreKept.freeRx _ _).trans (.of_same rfl rfl rfl)) fun _ => ?_)) fun _ => hread
    have haged := StoreKept.rewriteRx (load := load) hk (c := aged _) rfl
    exact ite_keeps (fun _ => haged.trans (.offer _ _)) fun _ => haged

end

end Sys2Proof.Machine

/-! PROOFS. What every command keeps of the store and of the queue. -/

namespace Sys2Proof.Machine

/-! ## Loadable windows (01 R18) -/

/-- A loadable window of LOAD_RX is a sound record. -/
theorem windowRx_sound {w : Vector Word 8} {x : RxState × Contents} (h : windowRx w = some x) : RxSound ⟨x.1, x.2, []⟩ := by
  have htest : ∀ {p : Prop} [Decidable p] {y : RxState × Contents}, (if p then some y else none) = some x → p ∧ y = x := fun {p} _ {y} =>
    ite_keeps (P := fun o => o = some x → p ∧ y = x) (fun hp hy => ⟨hp, Option.some.inj hy⟩)
      fun _ hn => absurd hn (Option.some_ne_none _).symm
  unfold windowRx at h
  dsimp only at h
  generalize (field w[0] 0 3).toNat = code at h
  generalize windowContents w = c at h
  rcases code with _ | _ | _ | _ | code
  · obtain ⟨-, rfl⟩ := htest h
    exact .of_zero rfl _
  · obtain ⟨hc, rfl⟩ := htest h
    exact .of_keyed rfl RxState.noConfusion hc
  · obtain ⟨hc, rfl⟩ := htest h
    exact ⟨fun hk => absurd hk Bool.true_eq_false.mp, fun _ => hc, fun hn => absurd rfl hn⟩
  · obtain ⟨hc, rfl⟩ := htest h
    exact .of_keyed rfl RxState.noConfusion hc
  · exact absurd h (Option.some_ne_none _).symm

/-- A loadable window of LOAD_TX is a record with a slot. -/
theorem windowTx_slotted {w : Vector Word 8} {x : TxState × Contents} (h : windowTx w = some x) : x.1.slotted = true := by
  unfold windowTx at h
  generalize (field w[0] 0 3).toNat = code at h
  rcases code with _ | _ | _ | _ | code
  · exact absurd h (Option.some_ne_none _).symm
  · exact Option.some.inj h ▸ rfl
  · exact Option.some.inj h ▸ rfl
  · exact Option.some.inj h ▸ rfl
  · exact absurd h (Option.some_ne_none _).symm

/-! ## Transactions of the Command Unit (10 R160, R161; 03 R60) -/

section
variable {load : Prop} {s : State}

theorem StoreKept.done {t : State} (h : StoreKept load s t) (r : Result) : StoreKept load s (complete r t) :=
  h.andSame (complete_onlyChanges r t) rfl

theorem StoreKept.loadRxWork (hload : load) (n : Ctx) : StoreKept load s (loadRxWork n s) := by
  unfold Machine.loadRxWork
  cases hw : windowRx s.cu.window with
  | none => exact (StoreKept.refl s).done _
  | some x =>
    have hsound := windowRx_sound hw
    induction x with | mk st c
    have hwrite : StoreKept load s (Machine.writeRx n st c s) := .writeRx (fun _ => hsound) fun hl => absurd hload hl
    clear hw hsound
    induction st with
    | free => exact (StoreKept.freeRx s n).done _
    | _ => exact hwrite.done _

theorem StoreKept.loadTxWork (hload : load) (n : Ctx) : StoreKept load s (loadTxWork n s) := by
  unfold Machine.loadTxWork
  cases hw : windowTx s.cu.window with
  | none => exact (StoreKept.refl s).done _
  | some x =>
    refine ite_keeps (fun _ => (StoreKept.refl s).done _) fun hbare => ?_
    have hsearch := search_searched (load := load) (q := .command) (k := x.2.key) s
    cases hfound : Machine.search .command x.2.key s with | mk s1 found
    rw [hfound] at hsearch
    induction found with
    | some j => exact hsearch.kept.done _
    | none =>
      dsimp only
      cases hempty : s1.emptySlot x.2.key.bucket with
      | none => exact hsearch.kept.done _
      | some i =>
        exact (hsearch.kept.install (emptySlot_slotAt hempty) (fun _ => eq_false_of_ne_true fun h => hbare (hsearch.slotted n h))
          (hsearch.keyAbsent rfl) (windowTx_slotted hw) (.inl hload)).done _

theorem StoreKept.pinWork (v : Bool) (d : Dir) (n : Ctx) (s : State) : StoreKept load s (pinWork v d n s) := by
  induction d with
  | receive =>
    have hread := StoreKept.readRx (load := load) .command n s
    exact ite_keeps (fun hk => (hread.trans (.rewriteRx (c := { Record.c _ with pinned := v }) hk rfl)).done _) fun _ => hread.done _
  | transmit =>
    have hread := StoreKept.readTx (load := load) .command n s
    exact ite_keeps (fun hs => (hread.trans (.rewriteSlotted (c := { Record.c _ with pinned := v }) hs hs rfl)).done _) fun _ => hread.done _

theorem StoreKept.setCu {t : State} (h : StoreKept load s t) (v : CmdUnit) : StoreKept load s (t.setCu v) :=
  h.trans (.of_same rfl rfl rfl)

theorem StoreKept.findTxWork (s : State) : StoreKept load s (findTxWork s) := by
  have hsearch := (search_searched (load := load) (q := .command) (k := windowKey s.cu.window) s).kept
  unfold Machine.findTxWork
  generalize Machine.search .command (windowKey s.cu.window) s = x at hsearch
  induction x with | mk s1 found
  induction found with
  | none => exact (hsearch.setCu _).done _
  | some j => exact (hsearch.setCu _).done _

/-- CLEAR_DEGRADED changes the store's state and no table. -/
theorem clearDegradedWork_tablesKept (s : State) : TablesKept load s (clearDegradedWork s) :=
  have hdone : ∀ r, TablesKept load s (complete r s) := fun r => ((StoreKept.refl s).done r).tables
  ite_keeps (fun _ => hdone _) fun _ => ite_keeps (fun _ => .of_tables rfl id) fun _ => hdone _

/-- A LOAD's granted transaction. -/
def LoadGranted (c : Instr) (s : State) : Prop :=
  c = .commandTransaction ∧ ∃ k d, s.cu.st = .busy .loadRx k d ∨ s.cu.st = .busy .loadTx k d

theorem commandWork_tablesKept {c : StoreCmd} (n : Ctx) (d : Dir) (hload : c = .loadRx ∨ c = .loadTx → load) (s : State) :
    TablesKept load s (commandWork c n d s) := by
  induction c with
  | readRx => exact (((StoreKept.readRx .command n s).setCu _).done _).tables
  | readTx => exact (((StoreKept.readTx .command n s).setCu _).done _).tables
  | loadRx => exact (StoreKept.loadRxWork (hload (.inl rfl)) n).tables
  | loadTx => exact (StoreKept.loadTxWork (hload (.inr rfl)) n).tables
  | retireRx => exact ((StoreKept.freeRx s n).done _).tables
  | retireTx => exact ((StoreKept.freeTx s n).done _).tables
  | pin | unpin => exact (StoreKept.pinWork _ d n s).tables
  | findTx => exact (StoreKept.findTxWork s).tables
  | clearDegraded => exact clearDegradedWork_tablesKept s

/-! ## Device reset and storage errors -/

theorem reset_transmitStoreSound : TransmitStoreSound State.reset :=
  have hbare : ∀ n, (State.reset.txRec n).st.slotted = false := fun n => (reset_txRec n).symm ▸ rfl
  have hnone : ∀ n {p : Prop}, (State.reset.txRec n).st.slotted = true → p := fun n _ h =>
    absurd ((hbare n).symm.trans h) Bool.false_ne_true
  ⟨⟨fun n => hnone n, fun n _ => reset_refOf n, fun b i _ h =>
    absurd ((reset_slotAt b i).symm.trans h) (Option.some_ne_none _).symm⟩, fun n _ h => hnone n h,
    fun n => iff_of_true (reset_isFree n) ((reset_txRec n).symm ▸ rfl)⟩

theorem reset_recordsSound : RecordsSound State.reset := fun n =>
  ⟨(reset_rxRec n).symm ▸ .of_zero rfl _, (reset_txRec n).symm ▸ fun _ => rfl⟩

theorem reset_queueSound : QueueSound State.reset.fbq := ⟨Nat.zero_le _, List.nodup_nil⟩

theorem deviceReset_tablesKept (s t : State) : TablesKept load s (deviceReset t) :=
  ⟨fun _ => reset_recordsSound, fun _ => ⟨⟨reset_transmitStoreSound.index.slotted, reset_transmitStoreSound.index.bare,
    reset_transmitStoreSound.index.filled⟩, reset_transmitStoreSound.keys, reset_transmitStoreSound.free⟩, fun _ => reset_queueSound,
    fun _ _ n => ⟨fun _ => congrArg Record.st (reset_rxRec n), fun _ => congrArg Record.st (reset_txRec n)⟩⟩

theorem damageRx_kept (n : Ctx) (bits : List Nat) (s : State) : StoreKept load s (damageRx n bits s) := by
  have hrx : ∀ k, (damageRx n bits s).rxRec k = if k = n then { s.rxRec n with flips := toggleBits bits (s.rxRec n).flips } else s.rxRec k :=
    fun k => Table.look_put ..
  refine ⟨⟨fun h k => ⟨hrx k ▸ ite_keeps (P := RxSound) (fun _ => ⟨(h n).1.bare, (h n).1.suspect, (h n).1.other⟩) fun _ => (h k).1,
    (h k).2⟩, fun h => ⟨⟨h.index.slotted, h.index.bare, h.index.filled⟩, h.keys, h.free⟩, id, fun _ _ k => ⟨?_, id⟩⟩, id⟩
  exact hrx k ▸ ite_keeps (P := fun r : Record RxState => (s.rxRec k).st = .free → r.st = .free) (fun he hk => he ▸ hk) fun _ => id

theorem damageTx_kept (n : Ctx) (bits : List Nat) (s : State) : StoreKept load s (damageTx n bits s) := by
  have htx : ∀ k, (damageTx n bits s).txRec k = if k = n then { s.txRec n with flips := toggleBits bits (s.txRec n).flips } else s.txRec k :=
    fun k => Table.look_put ..
  have hview : ∀ k, ((damageTx n bits s).txRec k).st = (s.txRec k).st ∧ ((damageTx n bits s).txRec k).c = (s.txRec k).c := fun k =>
    htx k ▸ ite_keeps (P := fun r : Record TxState => r.st = (s.txRec k).st ∧ r.c = (s.txRec k).c) (fun he => he ▸ ⟨rfl, rfl⟩)
      fun _ => ⟨rfl, rfl⟩
  refine ⟨⟨fun h k => ⟨(h k).1, fun hb => (hview k).2.trans ((h k).2 ((hview k).1 ▸ hb))⟩, fun h => h.of_tables (fun k => ?_)
    (fun _ => rfl) (fun _ _ => rfl) fun _ => rfl, id, fun _ _ k => ⟨id, (hview k).1.trans⟩⟩, id⟩
  exact ⟨congrArg _ (hview k).1, (hview k).1 ▸ .rfl, fun _ => congrArg _ (hview k).2⟩

end

end Sys2Proof.Machine

/-! PROOFS. Every command keeps records, transmit store and feedback queue sound. -/

namespace Sys2Proof.Machine

section
variable {load : Prop}

/-! ## Time, resets and writes of registers -/

theorem StoreKept.sweepPeriod {s t : State} (h : StoreKept load s t) : StoreKept load s (sweepPeriod t) :=
  h.andSame (sweepPeriod_onlyChanges t) rfl

theorem StoreKept.silencePeriod {s t : State} (h : StoreKept load s t) : StoreKept load s (silencePeriod t) :=
  h.andSame (silencePeriod_onlyChanges t) rfl

theorem StoreKept.boundaryPeriod {s t : State} (h : StoreKept load s t) : StoreKept load s (boundaryPeriod t) :=
  h.trans (ite_keeps (fun _ => .of_same rfl rfl rfl) fun _ => .of_same rfl rfl rfl)

theorem StoreKept.reloadTimer {s t : State} (h : StoreKept load s t) : StoreKept load s (reloadTimer t) :=
  h.trans (.of_same rfl rfl rfl)

theorem StoreKept.advance {s t : State} (h : StoreKept load s t) : StoreKept load s (advance t) :=
  ite_keeps (fun _ => h.reloadTimer.sweepPeriod.boundaryPeriod.silencePeriod) fun _ => h.trans (.of_same rfl rfl rfl)

theorem StoreKept.writeTimerControl (w : Word) (s : State) : StoreKept load s (writeTimerControl w s) := by
  have hrun : StoreKept load s (writeRun (w.getLsbD 0) s) := .of_same rfl rfl rfl
  have hreload : StoreKept load s (if w.getLsbD 1 then Machine.reloadTimer (writeRun (w.getLsbD 0) s) else writeRun (w.getLsbD 0) s) :=
    ite_keeps (fun _ => hrun.reloadTimer) fun _ => hrun
  exact ite_keeps (fun _ => ite_keeps (P := StoreKept load s) (fun _ => hreload) fun _ => hreload.advance) fun _ => hreload

theorem StoreKept.linkReset (s : State) : StoreKept load s (linkReset s) := by
  have hempty : StoreKept load s (s.setFbq []) := .setFbq fun _ => reset_queueSound
  unfold Machine.linkReset
  exact ((((hempty.andSame (onlyChanges_of_frame [.host] (linkResetHost_frame _)) rfl).andSame
    (onlyChanges_of_frame [.lrx, .stat] (linkResetReceiver_frame _)) rfl).andSame
    (onlyChanges_of_frame [.exp] (linkResetExpander_frame _)) rfl).andSame
    (onlyChanges_of_frame [.arb, .comp, .ltx, .stats, .stat] (linkResetTransmitter_frame _)) rfl)

theorem StoreKept.frame {bs : List Block} {s t : State} (h : OnlyChanges bs s t)
    (hbs : (bs.contains .store || bs.contains .fbq) = false) : StoreKept load s t := (StoreKept.refl s).andSame h hbs

theorem StoreKept.snapshotNow (s : State) : StoreKept load s (snapshotNow s) := .of_same rfl rfl rfl

theorem commandWrite_tablesKept (c : Command) (s : State) : TablesKept load s (commandWrite c s) := by
  have haccept : StoreKept load s (acceptCommand s) := .frame (acceptCommand_onlyChanges s) rfl
  refine commandWrite_changes c s (fun t ht => (StoreKept.frame ht rfl).tables) ?_
    (fun k => (haccept.andSame (onlyChanges_of_frame [.banks, .cu, .stat] (openBank_frame k _)) rfl).tables)
    (fun k => (haccept.andSame (onlyChanges_of_frame [.banks, .cu, .stat] (closeBank_frame k _)) rfl).tables)
    (fun k => (haccept.andSame (onlyChanges_of_frame [.comp, .cu, .stat] (selectBank_frame k _)) rfl).tables)
    ((haccept.trans (.linkReset _)).done _).tables (deviceReset_tablesKept s)
  exact ((haccept.trans (.snapshotNow _)).done _).tables

theorem writeRegister_tablesKept (a : BitVec 6) (w : Word) (s : State) : TablesKept load s (writeRegister a w s) :=
  writeRegister_cases a w s (fun _ h _ => (StoreKept.frame h rfl).tables)
    (StoreKept.frame (onlyChanges_of_frame [.arb, .comp, .lrx, .ltx, .stats, .host, .stat] (writeControl_frame w s)) rfl).tables
    (StoreKept.frame (onlyChanges_of_frame [.host] (writeWord_frame w s)) rfl).tables
    (fun n => (StoreKept.frame (onlyChanges_of_frame [.host, .stat] (commitMessage_frame n s)) rfl).tables)
    (fun c => commandWrite_tablesKept c s)
    (StoreKept.frame (onlyChanges_of_frame [.banks] (selectTable_frame w s)) rfl).tables
    (StoreKept.frame (onlyChanges_of_frame [.banks, .stat] (writeTable_frame w s)) rfl).tables (.of_tables rfl id)
    (StoreKept.writeTimerControl w s).tables
    fun k => (StoreKept.frame (onlyChanges_of_frame [.cfg, .ltx] (writeSettings_frame k w s)) rfl).tables

/-! ## Every command -/

theorem startFrame_tablesKept (s : State) : TablesKept load s (startFrame s) := by
  unfold startFrame
  have hsame : StoreKept load s s := .refl s
  induction s.frameChoice with
  | stay => exact hsame.tables
  | feedback =>
    exact ite_keeps (fun _ => .of_tables rfl id) fun _ => .of_tables rfl fun h => h.of_sublist (List.drop_sublist _ _)
  | message =>
    induction s.host.committed with
    | nil => exact hsame.tables
    | cons m rest _ =>
      exact ite_keeps (fun _ => .of_tables rfl id) fun _ =>
        (StoreKept.frame (onlyChanges_of_frame [.arb, .comp, .ltx, .host] (messageStart_frame m rest s)) rfl).tables

theorem StoreKept.endExp {s t : State} (h : StoreKept load s t) (b : Option (Fin 2)) (e : Option RxEntry) :
    TablesKept load s (endExpTransaction b e t) :=
  (h.andSame (onlyChanges_of_frame [.arb, .exp, .lrx] (endExpTransaction_frame b e t)) rfl).tables

theorem StoreKept.endEntry {s t : State} (h : StoreKept load s t) (b : Option (Fin 2)) (es : List FbEntry) :
    TablesKept load s (endEntry b es t) :=
  (h.andSame (onlyChanges_of_frame [.arb, .exp, .lrx] (endEntry_frame b es t)) rfl).tables

/-- The rows that touch neither store nor queue by their frame, the others by their operations. -/
theorem exec_tablesKept (c : Instr) (s : State) : Answers (TablesKept (LoadGranted c s) s) c s := by
  have hother : ∀ c, [Block.store, .fbq].all (fun b => !(changedBlocks c).contains b) = true →
      Answers (TablesKept (LoadGranted c s) s) c s := fun c hc => .of_blocks _ hc fun t ht =>
    .of_tables (congrArg Store.tables (ht .store (List.mem_cons_self ..))) fun h =>
      (ht .fbq (List.mem_cons_of_mem _ (List.mem_singleton_self _)) : t.fbq = s.fbq) ▸ h
  have hself : ∀ load, TablesKept load s s := fun _ => (StoreKept.refl s).tables
  induction c with
  | expandFull =>
    exact .expandFull (R := fun _ => True) trivial (hself _) fun b n h stride p _ =>
      (StoreKept.fullTransaction n h stride p s).endExp b _
  | expandDelta =>
    exact .expandDelta (R := fun _ => True) trivial (hself _) fun b n d r stride check p _ =>
      (StoreKept.deltaTransaction n d r stride check p s).endExp b _
  | expandBrief =>
    exact .expandBrief (R := fun _ => True) trivial (hself _) fun b n check p _ =>
      (StoreKept.briefTransaction n check p s).endExp b _
  | ackApply => exact .ackApply (R := fun _ => True) trivial (hself _) fun b n es _ => (StoreKept.ackEntry n s).endEntry b es
  | refreshApply =>
    exact .refreshApply (R := fun _ => True) trivial (hself _) fun b n es _ =>
      (StoreKept.refreshEntry n s).endEntry b es
  | nextFrameChoice => exact ite_keeps (fun _ => startFrame_tablesKept s) fun _ => hself _
  | take =>
    exact .take (R := fun _ => True) trivial (hself _) fun m f fate _ _ => ((StoreKept.takeMessage m s).andSame
      (onlyChanges_of_frame [.arb, .comp, .ltx, .stats, .stat] (endTake_frame f fate _ _)) rfl).tables
  | abortRequest =>
    exact .abortRequest (R := fun _ => True) trivial (hself _) fun n _ _ =>
      ((((StoreKept.readTx .compressor n s).trans (.makeRefreshing n _)).andSame
      (onlyChanges_of_frame [.arb, .comp, .ltx] (answerAbandoned_frame none _)) rfl).andSame
      (onlyChanges_of_frame [.arb] (endTransaction_frame _)) rfl).tables
  | timerOverflow | lineSilent | trefTick =>
    exact ite_keeps (fun _ => (StoreKept.refl s).advance.tables) fun _ => hself _
  | statisticsBoundary =>
    exact ite_keeps (fun _ => (StoreKept.refl s).reloadTimer.boundaryPeriod.sweepPeriod.silencePeriod.tables) fun _ => hself _
  | singleIncrement => exact hostAccess_keeps (hself _) (ite_keeps (fun _ => hself _) fun _ => (StoreKept.refl s).advance.tables)
  | sweepVisit =>
    exact .sweepVisit (R := fun _ => True) trivial (hself _) fun i _ _ =>
      ((StoreKept.visit i s).andSame (onlyChanges_of_frame [.arb, .sweep] (endVisit_frame i _)) rfl).tables
  | storageError dir n bits =>
    induction dir with
    | receive => exact (damageRx_kept n bits s).tables
    | transmit => exact (damageTx_kept n bits s).tables
  | errorCaptureWrite w => exact hostAccess_keeps (hself _) (.of_tables rfl id)
  | startupWalkEnd =>
    refine ite_keeps (fun _ => ?_) fun _ => hself _
    have hready : TablesKept (LoadGranted .startupWalkEnd s) s (s.setStore { s.store with st := .ready }) := .of_tables rfl id
    exact ((hready.andSame (onlyChanges_of_frame [.lrx] (startReceiver_frame _)) rfl).andSame
      (onlyChanges_of_frame [.ltx] (startTransmitter_frame _)) rfl).andSame (onlyChanges_of_frame [.arb] (arbitrate_frame _)) rfl
  | walkStep =>
    refine .walkStep (R := fun _ => True) trivial (hself _) fun dir i _ _ => ?_
    have hretire : StoreKept (LoadGranted .walkStep s) s (retire dir i s) := by
      induction dir with
      | receive => exact .freeRx s i
      | transmit => exact .freeTx s i
    exact (hretire.andSame (onlyChanges_of_frame [.arb, .cu, .stat] (endWalkStep_frame dir i _)) rfl).tables
  | commandTransaction =>
    refine .commandTransaction (R := (s.cu.st = ·)) rfl (hself _) fun c n dir hst _ => ?_
    have hload : c = .loadRx ∨ c = .loadTx → LoadGranted .commandTransaction s := fun h =>
      ⟨rfl, n, dir, h.imp (fun e : c = .loadRx => hst.trans (e ▸ rfl)) fun e : c = .loadTx => hst.trans (e ▸ rfl)⟩
    exact (commandWork_tablesKept n dir hload s).andSame (onlyChanges_of_frame [.arb] (endTransaction_frame _)) rfl
  | resetRelease => exact deviceReset_tablesKept s _
  | configurationWrite a w => exact hostAccess_keeps (hself _) (writeRegister_tablesKept a w s)
  | readRx | readTx | loadRx | loadTx | retireRx | retireTx | pin | unpin | retireAllRx | retireAllTx | findTx | openBank
  | closeBank | selectTxBank | clearDegraded | snapshot | linkReset | deviceReset | unknownCommand =>
    exact hostAccess_keeps (hself _) (commandWrite_tablesKept _ s)
  | _ => exact hother _ rfl

end

/-- Settles O5: what a command does to the store keeps index, keys and free map sound. -/
theorem stepKeepsTransmitStoreSound : Obligations.StepKeepsTransmitStoreSound := fun _ _ h hstep =>
  step_keeps (fun _ _ h => ⟨⟨h.index.slotted, h.index.bare, h.index.filled⟩, h.keys, h.free⟩)
    (fun c s _ h hexec => ((exec_tablesKept c s).of_next hexec).transmit h) h hstep

/-- Settles O6: offers, removals and frame starts keep the queue sound. -/
theorem stepKeepsFeedbackQueueSound : Obligations.StepKeepsFeedbackQueueSound := fun _ _ h hstep =>
  step_keeps (P := fun s => QueueSound s.fbq) (fun _ _ h => h)
    (fun c s _ h hexec => ((exec_tablesKept c s).of_next hexec).queue h) h hstep

/-- Settles O9: every record that a command writes is sound. -/
theorem stepKeepsRecordsSound : Obligations.StepKeepsRecordsSound := fun _ _ h hstep =>
  (step_keeps (P := RecordsSound) (fun _ _ h => h) (fun c s _ h hexec => ((exec_tablesKept c s).of_next hexec).records h)
    (.of_obligation h) hstep).to_obligation

/-- Settles O11: in a DEGRADED store only the transaction of a LOAD writes a FREE record. -/
theorem degradedStoreCreatesNothing : Obligations.DegradedStoreCreatesNothing := fun c s _ n hdeg hload hexec =>
  ((exec_tablesKept c s).of_next hexec).free hload hdeg n

end Sys2Proof.Machine

/-! PROOFS. The message FIFOs stay within their bounds, the space found for the Expander's frame included. Received bytes set at most
the lost mark of the Host Port. The invariants at reset. -/

namespace Sys2Proof.Machine

/-- Settles O4: the tables are empty, and no requester waits. -/
theorem invariantsHoldAtReset : Obligations.InvariantsHoldAtReset := by
  obtain ⟨hcontents, hcounts⟩ := reset_recordsSound.to_obligation
  have hquiet : ∀ q, State.reset.arb.waits q = false := fun q => by induction q <;> rfl
  exact ⟨reset_transmitStoreSound, hcontents, hcounts, reset_queueSound, ⟨rfl, fun _ h => (Option.some_ne_none _ h.symm).elim⟩,
    ⟨Nat.zero_le _, Nat.zero_le _, Nat.zero_le _⟩,
    ⟨rfl, rfl, rfl, rfl, fun q h => Bool.false_ne_true ((hquiet q).symm.trans h.1), fun _ _ => hquiet, fun _ => rfl, fun _ => rfl,
      fun _ _ _ => rfl⟩⟩

/-! ## Received bytes and the lost mark (07 R126) -/

/-- Of the Host Port `t` differs from `s` at most by the lost mark, which may be set. -/
def OnlyMarksLost (s t : State) : Prop :=
  t.host = { s.host with lostMark := t.host.lostMark } ∧ (s.host.lostMark = true → t.host.lostMark = true)

theorem OnlyMarksLost.of_eq {s t : State} (h : t.host = s.host) : OnlyMarksLost s t := ⟨h ▸ rfl, h ▸ id⟩

theorem OnlyMarksLost.of_frame {bs : List Block} {s t : State} (h : OnlyChanges bs s t) (hbs : bs.contains .host = false) :
    OnlyMarksLost s t := .of_eq (h.same .host hbs)

theorem OnlyMarksLost.trans {s t u : State} (hst : OnlyMarksLost s t) (htu : OnlyMarksLost t u) : OnlyMarksLost s u :=
  ⟨htu.1.trans (congrArg (fun h : HostFifos => { h with lostMark := u.host.lostMark }) hst.1 :), htu.2 ∘ hst.2⟩

theorem skipEnds_marksLost (w : SkipWhy) (s : State) : OnlyMarksLost s (skipEnds w s) := by
  induction w with
  | rejected =>
    exact .of_frame ((onlyChanges_of_frame [.stats] (raise_frame .addrReject s)).trans
      (onlyChanges_of_frame [.lrx] (enterHunt_frame _))) rfl
  | overrun =>
    exact OnlyMarksLost.trans (t := markLost (raise .rxOverrun s)) ⟨rfl, fun _ => rfl⟩
      (.of_frame (onlyChanges_of_frame [.lrx] (enterHunt_frame _)) rfl)

theorem receiveByte_marksLost (x : Byte) (s : State) : OnlyMarksLost s (receiveByte x s) := by
  unfold receiveByte
  have hlrx : ∀ v, OnlyMarksLost s (s.setLrx v) := fun _ => .of_eq rfl
  induction s.lrx.st with
  | disabled => exact .of_eq rfl
  | hunt w => exact ite_keeps (fun _ => hlrx _) fun _ => hlrx _
  | address f got =>
    exact ite_keeps (fun _ => .of_frame (onlyChanges_of_frame [.lrx] (addressRead_frame ..)) rfl) fun _ => hlrx _
  | frame f addr k hasLen crc => exact .of_frame (onlyChanges_of_frame [.lrx, .stats, .stat] (frameByte_frame ..)) rfl
  | skip f why left =>
    have hends := skipEnds_marksLost why s
    induction left with
    | some n => exact ite_keeps (fun _ => hends) fun _ => hlrx _
    | none =>
      induction why with
      | rejected => exact ite_keeps (fun _ => hlrx _) fun _ => hends
      | overrun =>
        exact ite_keeps (fun _ => hlrx _) fun _ => .of_frame (onlyChanges_of_frame [.lrx, .stats, .stat] (lengthError_frame s)) rfl

theorem receiveBytes_marksLost (bytes : List Byte) (s : State) :
    OnlyMarksLost s (bytes.foldl (fun t x => receiveByte x t) s) := by
  induction bytes generalizing s with
  | nil => exact .of_eq rfl
  | cons x bytes ih => exact (receiveByte_marksLost x s).trans (ih _)

/-- Settles O17: no byte reaches more than the receiver, and of the Host Port the lost mark. -/
theorem receivedBytesTouchNoContext : Obligations.ReceivedBytesTouchNoContext := by
  intro bytes s
  obtain ⟨hhost, hmark⟩ := receiveBytes_marksLost bytes s
  exact ⟨_, rfl, onlyChanges_of_frame _ (receiveBytes_frame bytes s), hhost, hmark⟩

/-! ## Bounds of the message FIFOs (10 R154) -/

/-- Less in the receive FIFO with less space kept, no more messages and no more of them. -/
theorem FifoBounds.of_le {s t : State} (h : FifoBounds s)
    (hrx : t.host.rxBytes + t.exp.reserved ≤ s.host.rxBytes + s.exp.reserved)
    (hcommitted : t.host.committed.length ≤ s.host.committed.length) (htx : t.host.txBytes ≤ s.host.txBytes) :
    FifoBounds t := ⟨hrx.trans h.receive, hcommitted.trans h.messages, htx.trans h.transmit⟩

theorem FifoBounds.of_host {s t : State} (h : FifoBounds s) (hhost : t.host = s.host)
    (hexp : t.exp.reserved ≤ s.exp.reserved) : FifoBounds t :=
  h.of_le (hhost ▸ Nat.add_le_add_left hexp _) (hhost ▸ Nat.le_refl _) (hhost ▸ Nat.le_refl _)

theorem FifoBounds.of_frame {bs : List Block} {s t : State} (h : FifoBounds s) (hframe : OnlyChanges bs s t)
    (hbs : (bs.contains .host || bs.contains .exp) = false) : FifoBounds t := by
  obtain ⟨hhost, hexp⟩ := Bool.or_eq_false_iff.mp hbs
  exact h.of_host (hframe.same .host hhost) (Nat.le_of_eq (congrArg ExpState.reserved (hframe.same .exp hexp)))

theorem FifoBounds.of_marksLost {s t : State} (h : FifoBounds s) (hmarks : OnlyMarksLost s t)
    (hexp : t.exp.reserved ≤ s.exp.reserved) : FifoBounds t :=
  h.of_le (Nat.add_le_add (congrArg HostFifos.rxBytes hmarks.1).le hexp) (congrArg (fun x : HostFifos => x.committed.length) hmarks.1).le
    (congrArg HostFifos.txBytes hmarks.1).le

/-- An entry takes the space that was kept for it. -/
theorem FifoBounds.push {s t : State} (h : FifoBounds s) {e : RxEntry} (hhost : t.host = (pushEntry e s).host)
    (hroom : s.host.rxBytes + e.size + t.exp.reserved ≤ 4096) : FifoBounds t := by
  have hrx : (pushEntry e s).host.rxBytes = s.host.rxBytes + e.size := by
    simp [HostFifos.rxBytes, RxEntry.size]
  exact ⟨hhost ▸ hrx ▸ hroom, hhost ▸ h.messages, hhost ▸ h.transmit⟩

theorem FifoBounds.freeEntry {s : State} (h : FifoBounds s) : FifoBounds (freeEntry s) := by
  refine h.of_le (Nat.add_le_add_right ?_ _) (Nat.le_refl _) (Nat.le_refl _)
  show ((s.host.rx.tail).map RxEntry.size).sum ≤ (s.host.rx.map RxEntry.size).sum
  induction s.host.rx with
  | nil => exact Nat.le_refl _
  | cons e es _ => exact List.sum_cons (a := e.size) ▸ Nat.le_add_left _ _

theorem FifoBounds.discardEntry {s : State} (h : FifoBounds s) : FifoBounds (discardEntry s) := by
  have hfreed := h.freeEntry
  unfold Machine.discardEntry
  generalize Machine.freeEntry s = u at hfreed
  induction s.host.rx with
  | nil => exact h
  | cons _ _ _ => exact hfreed

theorem FifoBounds.readEntryWord {s : State} (h : FifoBounds s) : FifoBounds (readEntryWord s) := by
  have hfreed := h.freeEntry
  unfold Machine.readEntryWord
  generalize Machine.freeEntry s = u at hfreed
  induction s.host.rx with
  | nil => exact h.of_frame (onlyChanges_setEvent .rxUnderrun s) rfl
  | cons e es _ => exact ite_keeps (fun _ => hfreed) fun _ => ⟨h.receive, h.messages, h.transmit⟩

theorem FifoBounds.clearBuild {s : State} (h : FifoBounds s) : FifoBounds (clearBuild s) :=
  ⟨h.receive, h.messages, (Nat.add_le_add_left (Nat.zero_le _) _).trans h.transmit⟩

theorem FifoBounds.writeWord {s : State} (h : FifoBounds s) (w : Word) : FifoBounds (writeWord w s) := by
  refine ite_keeps (fun hfits => ⟨h.receive, h.messages, ?_⟩) fun _ => ⟨h.receive, h.messages, h.transmit⟩
  have hroom : s.host.txBytes + 4 ≤ 4096 := of_decide_eq_true (Bool.and_eq_true_iff.mp hfits).2
  refine Nat.le_trans (Nat.le_of_eq ?_) hroom
  show _ + 4 * (s.host.build ++ [w]).length = _ + 4 * s.host.build.length + 4
  rw [List.length_append, Nat.mul_add, Nat.add_assoc]
  rfl

/-- A committed message takes no more space than its construction did. -/
theorem messageSize_take_le (ws : List Word) (n : Nat) : messageSize ((unpackWords ws).take n) ≤ 4 * ws.length := by
  have hlen : (unpackWords ws).length = 4 * ws.length := by
    induction ws with
    | nil => rfl
    | cons w ws ih => exact (List.length_append (as := bytes32 w) (bs := unpackWords ws)).trans (by rw [ih]; exact (Nat.add_comm 4 _))
  have htake := List.length_take_le' n (unpackWords ws)
  have hwords : ((unpackWords ws).take n).length + 3 < (ws.length + 1) * 4 := by
    rw [Nat.succ_mul, Nat.mul_comm]
    exact Nat.add_lt_add_of_le_of_lt (htake.trans hlen.le) (by decide)
  exact Nat.mul_le_mul_left 4 (Nat.le_of_lt_succ ((Nat.div_lt_iff_lt_mul (by decide)).mpr hwords))

theorem FifoBounds.commitMessage {s : State} (h : FifoBounds s) (n : Nat) : FifoBounds (commitMessage n s) := by
  have hcleared : FifoBounds (Machine.clearBuild (s.setHost { s.host with reason := s.host.commitReason n })) :=
    FifoBounds.clearBuild (s := s.setHost _) ⟨h.receive, h.messages, h.transmit⟩
  refine ite_keeps (fun hr => ⟨h.receive, ?_, ?_⟩) fun _ => hcleared.of_frame (onlyChanges_setEvent .txReject _) rfl
  · have hroom : s.host.committed.length < 32 := Nat.lt_of_not_le fun hfull => by
      have hne : ∀ {c : Prop} [Decidable c] {a b : BitVec 3}, a ≠ 0 → b ≠ 0 → (if c then a else b) ≠ 0 := fun {_} _ {_ _} ha hb =>
        ite_keeps (P := (· ≠ 0)) (fun _ => ha) fun _ => hb
      unfold HostFifos.commitReason at hr
      rw [if_pos (show Config.maxMessages ≤ _ from hfull)] at hr
      exact hne (by decide) (hne (by decide) (hne (by decide) (hne (by decide) (by decide)))) hr
    exact (List.length_append (as := s.host.committed) (bs := [_])).trans_le hroom
  · have htx := h.transmit
    have hsize := messageSize_take_le s.host.build n
    show ((s.host.committed ++ [_]).map messageSize).sum + 4 * 0 ≤ 4096
    rw [List.map_append, List.sum_append]
    exact (Nat.add_le_add_left hsize _).trans htx

/-! ## The Expander's frame in work (04 R62 to R65) -/

theorem endWork_exp (b : Option (Fin 2)) (s : State) : (endWork b s).exp = .idle := by induction b <;> rfl

/-- The state that the end of a frame's transaction leaves the Expander in. -/
noncomputable def ExpState.after (b : Option (Fin 2)) (e : Option RxEntry) : ExpState :=
  (b.bind fun k => e.map (ExpState.deliver k)).getD .idle

theorem endExpTransaction_exp (b : Option (Fin 2)) (e : Option RxEntry) (s : State) :
    (endExpTransaction b e s).exp = .after b e := by
  have hend : ∀ u, (endTransaction u).exp = u.exp := fun u => (onlyChanges_of_frame [.arb] (endTransaction_frame u)).same .exp rfl
  induction b with
  | none => exact (hend _).trans rfl
  | some k => induction e with
    | none => exact (hend _).trans rfl
    | some x => exact (hend _).trans rfl

/-- The work of the Expander's granted transaction is that of its state. -/
theorem expTransaction_exp {s : State} {b : Option (Fin 2)} {w : ExpWork} (h : s.expTransaction = some (b, w)) :
    s.holds .expander = true ∧ s.exp = (b.map (ExpState.busy · w)).getD (.abandonedRunning w) := by
  unfold State.expTransaction at h
  by_cases hholds : s.holds .expander = true
  · refine ⟨hholds, ?_⟩
    rw [if_pos hholds] at h
    revert h
    induction s.exp with
    | busy k v => exact fun h => by obtain ⟨rfl, rfl⟩ := Prod.mk.inj (Option.some.inj h); rfl
    | abandonedRunning v => exact fun h => by obtain ⟨rfl, rfl⟩ := Prod.mk.inj (Option.some.inj h); rfl
    | _ => exact fun h => absurd h (Option.some_ne_none _).symm
  · exact absurd ((if_neg hholds).symm.trans h) (Option.some_ne_none _).symm

/-- The space kept for a frame in work is that of the entry its transaction delivers. -/
theorem FifoBounds.endExp {s t : State} (h : FifoBounds s) {bs : List Block} (hframe : OnlyChanges bs s t)
    (hbs : bs.contains .host = false) {b : Option (Fin 2)} {w : ExpWork} {p : List Byte} {e : Option RxEntry}
    (hwork : s.expTransaction = some (b, w)) (hw : w.payloadLength = some p.length)
    (he : ∀ x, e = some x → x.payload = p) : FifoBounds (endExpTransaction b e t) := by
  have hhost : (endExpTransaction b e t).host = s.host :=
    ((onlyChanges_of_frame [.arb, .exp, .lrx] (endExpTransaction_frame b e t)).same .host rfl).trans (hframe.same .host hbs)
  refine h.of_host hhost ?_
  rw [endExpTransaction_exp, (expTransaction_exp hwork).2]
  induction b with
  | none => exact Nat.zero_le _
  | some k =>
    induction e with
    | none => exact Nat.zero_le _
    | some x =>
      refine Nat.le_of_eq ?_
      show entrySize x.payload.length = (w.payloadLength.map entrySize).getD 0
      rw [hw, he x rfl]
      rfl

theorem FifoBounds.endEntry {s t : State} (h : FifoBounds s) {bs : List Block} (hframe : OnlyChanges bs s t)
    (hbs : bs.contains .host = false) (b : Option (Fin 2)) (es : List FbEntry) : FifoBounds (endEntry b es t) := by
  refine h.of_host (((onlyChanges_of_frame [.arb, .exp, .lrx] (endEntry_frame b es t)).same .host rfl).trans (hframe.same .host hbs))
    ((Nat.le_of_eq ?_).trans (Nat.zero_le _))
  have hend : ∀ u, (endTransaction u).exp = u.exp := fun u => (onlyChanges_of_frame [.arb] (endTransaction_frame u)).same .exp rfl
  induction b with
  | none => exact congrArg ExpState.reserved (hend _)
  | some k => induction es with
    | nil => exact congrArg ExpState.reserved (hend _)
    | cons e es _ =>
      exact congrArg ExpState.reserved ((onlyChanges_of_frame [.arb] (endAndRequest_frame .expander _)).same .exp rfl)

/-- A DELTA or BRIEF frame's transaction delivers the frame's payload. -/
theorem deltaTransaction_payload {n : Ctx} {d : Nat} {r : Int} {stride : Option Half} {check : BitVec 7} {p : List Byte}
    {s : State} {e : RxEntry} : (deltaTransaction n d r stride check p s).2 = some e → e.payload = p :=
  have hnone : ∀ {q : State}, (q, (none : Option RxEntry)).2 = some e → e.payload = p := fun h => absurd h (Option.some_ne_none _).symm
  ite_keeps (P := fun x : State × Option RxEntry => x.2 = some e → e.payload = p)
    (fun _ => ite_keeps (P := fun x : State × Option RxEntry => x.2 = some e → e.payload = p)
      (fun _ h => Option.some.inj h ▸ rfl) fun _ => hnone) fun _ => hnone

theorem briefTransaction_payload {n : Ctx} {check : BitVec 7} {p : List Byte} {s : State} {e : RxEntry} :
    (briefTransaction n check p s).2 = some e → e.payload = p := by
  have hnone : ∀ {q : State}, (q, (none : Option RxEntry)).2 = some e → e.payload = p := fun h => absurd h (Option.some_ne_none _).symm
  refine ite_keeps (P := fun x : State × Option RxEntry => x.2 = some e → e.payload = p) (fun _ => ?_) fun _ => hnone
  induction firstHypothesis _ _ _ _ _ with
  | none => exact hnone
  | some k => exact fun h => Option.some.inj h ▸ rfl

theorem fullTransaction_payload (n : Ctx) (h : Header) (stride : Half) (p : List Byte) (s : State) :
    (fullTransaction n h stride p s).2.payload = p := by
  rw [fullTransaction_eq]
  exact ite_keeps (P := fun x : State × RxEntry => x.2.payload = p) (fun _ => rfl) fun _ => rfl

/-- The Expander takes a frame only with room for its entry (04 R63). -/
theorem FifoBounds.handleVerdict {s : State} (h : FifoBounds s) (hidle : s.exp = .idle) (b : Fin 2) (v : Verdict) :
    FifoBounds (handleVerdict b v s) := by
  have hdrop : FifoBounds (dropFrame b s) := h.of_marksLost ⟨rfl, fun _ => rfl⟩ (Nat.le_refl _)
  have hstart : ∀ w t, OnlyChanges [.stats] s t → (w.payloadLength.map entrySize).getD 0 + s.host.rxBytes ≤ 4096 →
      FifoBounds (startWork b w t) := fun w t ht hroom => by
    have hframe := onlyChanges_of_frame [.arb, .exp] (startWork_frame b w t)
    have hhost : (startWork b w t).host = s.host := (hframe.same .host rfl).trans (ht.same .host rfl)
    have hexp : (startWork b w t).exp = .busy b w := (onlyChanges_of_frame [.arb] (request_frame .expander _)).same .exp rfl
    exact ⟨hexp ▸ hhost ▸ Nat.add_comm _ _ ▸ hroom, hhost ▸ h.messages, hhost ▸ h.transmit⟩
  have hbelow : s.host.rxBytes ≤ 4096 := (Nat.le_add_right _ _).trans h.receive
  induction v with
  | malformed | codeError => exact h.of_marksLost (.of_eq rfl) (Nat.le_refl _)
  | raw hd p =>
    refine ite_keeps (fun hroom => ?_) fun _ => hdrop
    exact h.push (e := plainEntry .raw 0 hd p) rfl ((congrArg (_ + ExpState.reserved ·) hidle).le.trans (of_decide_eq_true hroom))
  | work w =>
    have hw := hstart w
    revert hw
    unfold Machine.handleVerdict
    dsimp only
    cases hlen : w.payloadLength with
    | none => exact fun hw => hw _ (onlyChanges_of_frame [.stats] (raise_frame .fbReceived s)) ((Nat.zero_add _).le.trans hbelow)
    | some p =>
      exact fun hw => ite_keeps (fun hroom => hw s (.refl _ s) ((Nat.add_comm _ _).le.trans (of_decide_eq_true hroom))) fun _ => hdrop

theorem FifoBounds.expanderTake {s : State} (h : FifoBounds s) : FifoBounds (expanderTake s) := by
  unfold Machine.expanderTake
  cases hexp : s.exp with
  | idle =>
    have htaken : ∀ v b k, FifoBounds (Machine.handleVerdict b k (s.setLrx v)) := fun v =>
      FifoBounds.handleVerdict (s := s.setLrx v) ⟨h.receive, h.messages, h.transmit⟩ hexp
    induction s.lrx.order with
    | nil => exact h
    | cons b rest _ => exact htaken _ b _
  | _ => exact h

/-! ## Frame starts, resets and writes of registers -/

theorem FifoBounds.startFrame {s : State} (h : FifoBounds s) : FifoBounds (startFrame s) := by
  have hself : ∀ t, t.host = s.host → t.exp = s.exp → FifoBounds t := fun t ht he => h.of_host ht (he ▸ Nat.le_refl _)
  unfold Machine.startFrame
  induction s.frameChoice with
  | stay => exact h
  | feedback => exact ite_keeps (fun _ => hself _ rfl rfl) fun _ => hself _ rfl rfl
  | message =>
    cases hc : s.host.committed with
    | nil => exact h
    | cons m rest =>
      refine ite_keeps (fun _ => hself _ rfl rfl) fun _ => ?_
      have hlen : rest.length ≤ s.host.committed.length := hc ▸ Nat.le_succ _
      have hsum : (rest.map messageSize).sum ≤ (s.host.committed.map messageSize).sum := by
        rw [hc, List.map_cons, List.sum_cons]
        exact Nat.le_add_left _ _
      rw [messageStart, request_eq]
      exact h.of_le (Nat.le_refl _) hlen (Nat.add_le_add_right hsum _)

theorem FifoBounds.empty {s : State} (h : s.host.rx = [] ∧ s.host.committed = [] ∧ s.host.build = [])
    (hexp : s.exp.reserved = 0) : FifoBounds s := by
  obtain ⟨hrx, hcommitted, hbuild⟩ := h
  constructor
  · rw [hexp, HostFifos.rxBytes, hrx]
    decide
  · rw [hcommitted]
    decide
  · rw [HostFifos.txBytes, hcommitted, hbuild]
    decide

theorem linkReset_fifoBounds (s : State) : FifoBounds (linkReset s) := by
  have hhost := onlyChanges_of_frame [.exp] (linkResetExpander_frame (linkResetReceiver (linkResetHost (s.setFbq []))))
  have hreceiver := onlyChanges_of_frame [.lrx, .stat] (linkResetReceiver_frame (linkResetHost (s.setFbq [])))
  have hexpander : ∀ u : State, (linkResetExpander u).exp.reserved = 0 := fun u => by
    unfold linkResetExpander
    show (u.exp.linkReset (u.holds .expander)).reserved = 0
    induction u.holds .expander <;> induction u.exp <;> rfl
  have hempty : FifoBounds (linkResetExpander (linkResetReceiver (linkResetHost (s.setFbq [])))) := by
    have hall : (linkResetExpander (linkResetReceiver (linkResetHost (s.setFbq [])))).host = (linkResetHost (s.setFbq [])).host :=
      (hhost.same .host rfl).trans (hreceiver.same .host rfl)
    exact .empty (hall ▸ ⟨rfl, rfl, rfl⟩) (hexpander _)
  unfold linkReset
  exact hempty.of_frame (onlyChanges_of_frame [.arb, .comp, .ltx, .stats, .stat] (linkResetTransmitter_frame _)) rfl

theorem FifoBounds.commandWrite {s : State} (h : FifoBounds s) (c : Command) : FifoBounds (commandWrite c s) := by
  have hs : FifoBounds (acceptCommand s) := ⟨h.receive, h.messages, h.transmit⟩
  exact commandWrite_changes c s (fun _ ht => h.of_frame ht rfl)
    (hs.of_frame ((snapshotNow_onlyChanges _).trans (complete_onlyChanges .ok _)) rfl)
    (fun k => hs.of_frame (onlyChanges_of_frame [.banks, .cu, .stat] (openBank_frame k _)) rfl)
    (fun k => hs.of_frame (onlyChanges_of_frame [.banks, .cu, .stat] (closeBank_frame k _)) rfl)
    (fun k => hs.of_frame (onlyChanges_of_frame [.comp, .cu, .stat] (selectBank_frame k _)) rfl)
    ((linkReset_fifoBounds _).of_frame (complete_onlyChanges .ok _) rfl) fun _ => .empty ⟨rfl, rfl, rfl⟩ rfl

theorem FifoBounds.writeControl {s : State} (h : FifoBounds s) (w : Word) : FifoBounds (writeControl w s) := by
  have henable := h.of_frame ((onlyChanges_of_frame [.lrx] (writeReceiveEnable_frame (w.getLsbD 0) s)).trans
    (onlyChanges_of_frame [.arb, .comp, .ltx, .stats, .stat] (writeTransmitEnable_frame (w.getLsbD 1) _))) rfl
  unfold Machine.writeControl
  generalize writeTransmitEnable _ _ = u at henable
  have hdiscarded : FifoBounds (if w.getLsbD 8 then Machine.discardEntry u else u) :=
    ite_keeps (fun _ => henable.discardEntry) fun _ => henable
  exact ite_keeps (fun _ => hdiscarded.clearBuild) fun _ => hdiscarded

theorem FifoBounds.writeRegister {s : State} (h : FifoBounds s) (a : BitVec 6) (w : Word) : FifoBounds (writeRegister a w s) :=
  writeRegister_cases a w s (fun _ hframe _ => h.of_frame hframe rfl) (h.writeControl w) (h.writeWord w) h.commitMessage
    h.commandWrite (h.of_frame (onlyChanges_of_frame [.banks] (selectTable_frame w s)) rfl)
    (h.of_frame (onlyChanges_of_frame [.banks, .stat] (writeTable_frame w s)) rfl)
    (h.of_frame (emptyCapture_onlyChanges s) rfl)
    (h.of_frame (onlyChanges_of_frame [.store, .arb, .lrx, .timer, .sweep, .stats, .stat] (writeTimerControl_frame w s)) rfl)
    fun k => h.of_frame (onlyChanges_of_frame [.cfg, .ltx] (writeSettings_frame k w s)) rfl

/-- The rows that touch neither Host Port nor Expander by their frame, the others by their operations. -/
theorem exec_fifoBounds {s : State} (h : FifoBounds s) (c : Instr) : Answers FifoBounds c s := by
  have hother : ∀ c, [Block.host, .exp].all (fun b => !(changedBlocks c).contains b) = true → Answers FifoBounds c s :=
    fun c hc => .of_blocks _ hc fun t ht => h.of_host (ht .host (List.mem_cons_self ..))
      (Nat.le_of_eq (congrArg ExpState.reserved (ht .exp (List.mem_cons_of_mem _ (List.mem_singleton_self _)))))
  induction c with
  | receiveFrame bytes =>
    exact h.of_marksLost (receiveBytes_marksLost bytes s)
      (Nat.le_of_eq (congrArg ExpState.reserved ((onlyChanges_of_frame [.lrx, .stats, .host, .stat] (receiveBytes_frame bytes s)).same .exp rfl)))
  | expanderFrameTake => exact h.expanderTake
  | expandFull =>
    exact .expandFull (R := (s.expTransaction = ·)) rfl h fun b n hd stride p hwork =>
      h.endExp (onlyChanges_of_frame [.store, .fbq, .stats, .stat] (fullTransaction_frame ..)) rfl hwork rfl fun x hx =>
        Option.some.inj hx ▸ fullTransaction_payload ..
  | expandDelta =>
    exact .expandDelta (R := (s.expTransaction = ·)) rfl h fun b n d r stride check p hwork =>
      h.endExp (onlyChanges_of_frame [.store, .fbq, .stats, .stat] (deltaTransaction_frame ..)) rfl hwork rfl fun _ =>
        deltaTransaction_payload
  | expandBrief =>
    exact .expandBrief (R := (s.expTransaction = ·)) rfl h fun b n check p hwork =>
      h.endExp (onlyChanges_of_frame [.store, .fbq, .stats, .stat] (briefTransaction_frame ..)) rfl hwork rfl fun _ =>
        briefTransaction_payload
  | rxEntryWrite =>
    refine .rxEntryWrite (R := (s.exp = ·)) rfl h fun b e hexp => ?_
    have hkept : s.host.rxBytes + e.size ≤ 4096 := (congrArg (_ + ExpState.reserved ·) hexp).symm.le.trans h.receive
    exact h.push (e := e) ((onlyChanges_of_frame [.exp, .lrx] (endWork_frame (some b) _)).same .host rfl) hkept
  | expanderAbandonedGrant =>
    refine ite_keeps (fun _ => ?_) fun _ => h
    exact FifoBounds.of_frame (s := s.setExp .idle) (h.of_host rfl (Nat.zero_le _)) (onlyChanges_of_frame [.arb] (endTransaction_frame _)) rfl
  | ackApply =>
    exact .ackApply (R := fun _ => True) trivial h fun b n es _ =>
      h.endEntry (onlyChanges_of_frame [.store, .stats, .stat] (ackEntry_frame n s)) rfl b es
  | refreshApply =>
    exact .refreshApply (R := fun _ => True) trivial h fun b n es _ =>
      h.endEntry (onlyChanges_of_frame [.store, .stats, .stat] (refreshEntry_frame n s)) rfl b es
  | nextFrameChoice => exact ite_keeps (fun _ => h.startFrame) fun _ => h
  | discard => exact hostAccess_keeps h h.discardEntry
  | cancel => exact hostAccess_keeps h h.clearBuild
  | transmitData w => exact hostAccess_keeps h (h.writeWord w)
  | commit w => exact hostAccess_keeps h (h.commitMessage _)
  | receiveData =>
    have hpins : ∀ v, FifoBounds (s.setPins v) := fun _ => ⟨h.receive, h.messages, h.transmit⟩
    exact ite_keeps (P := FifoBounds) (fun _ => hpins _) fun _ => (hpins _).readEntryWord
  | configurationWrite a w => exact hostAccess_keeps h (h.writeRegister a w)
  | resetRelease => exact .empty ⟨rfl, rfl, rfl⟩ rfl
  | readRx | readTx | loadRx | loadTx | retireRx | retireTx | pin | unpin | retireAllRx | retireAllTx | findTx | openBank
  | closeBank | selectTxBank | clearDegraded | snapshot | linkReset | deviceReset | unknownCommand =>
    exact hostAccess_keeps h (h.commandWrite _)
  | _ => exact hother _ rfl

/-- Settles O8: an entry is written into the space kept for it, a word or message into the space found for it. -/
theorem stepKeepsFifoBounds : Obligations.StepKeepsFifoBounds := fun _ _ h hstep =>
  step_keeps (fun _ _ h => ⟨h.receive, h.messages, h.transmit⟩) (fun c _ _ h hexec => (exec_fifoBounds h c).of_next hexec) h hstep

end Sys2Proof.Machine

/-! PROOFS. The Line Transmitter: frame starts, clear-to-send, the line enables, byte slots and the end of a frame. -/

namespace Sys2Proof.Machine

/-! ## The abandonment of a frame (08 R137, R138) -/

section
variable {s : State}

theorem abandonFrame_of_frame (h : s.ltx.st = .frame) : abandonFrame s =
    match s.comp.work with
    | .taking m f .send => s.setComp { s.comp with work := .taking m f .abandon }
    | .taking _ _ .abandon => s
    | .taking _ _ .discard => s
    | .aborting _ => s
    | .idle =>
      match s.ltx.inFlight with
      | some f => answerAbandoned f.n (countAborted s)
      | none => s
    | .sending =>
      match s.ltx.inFlight with
      | some f => answerAbandoned f.n (countAborted s)
      | none => s := if_pos h

theorem abandonFrame_of_not_frame (h : s.ltx.st ≠ .frame) : abandonFrame s = s := if_neg h

theorem abandonFrame_of_inFlight {fl : InFlight} (h : s.ltx.st = .frame) (hfl : s.ltx.inFlight = some fl)
    (hwork : s.comp.work = .sending ∨ s.comp.work = .idle) : abandonFrame s = answerAbandoned fl.n (countAborted s) := by
  rw [abandonFrame_of_frame h]
  rcases hwork with hwork | hwork <;> rw [hwork, hfl]

theorem abandonFrame_of_take {m : Message} {f : TxFormat} (h : s.ltx.st = .frame) (hwork : s.comp.work = .taking m f .send) :
    abandonFrame s = s.setComp { s.comp with work := .taking m f .abandon } := by
  rw [abandonFrame_of_frame h, hwork]

/-- A take whose frame is abandoned is not sent. -/
theorem abandonFrame_of_taking {m : Message} {f : TxFormat} {fate : TakeFate} (h : s.ltx.st = .frame)
    (hwork : s.comp.work = .taking m f fate) :
    abandonFrame s = s.setComp { s.comp with work := .taking m f (if fate = .send then .abandon else fate) } := by
  have hkept : s.setComp { s.comp with work := .taking m f fate } = s := hwork ▸ rfl
  refine (abandonFrame_of_frame h).trans ?_
  rw [hwork]
  induction fate with
  | send => rfl
  | _ => exact hkept.symm

/-- A frame whose take will not be sent, or whose abort request is made, is abandoned already. -/
theorem abandonFrame_of_abandoned (h : (∃ n, s.comp.work = .aborting n) ∨
    ∃ m f fate, s.comp.work = .taking m f fate ∧ fate ≠ .send) : abandonFrame s = s := by
  refine ite_keeps (P := fun t => t = s) (fun _ => ?_) fun _ => rfl
  rcases h with ⟨n, hwork⟩ | ⟨m, f, fate, hwork, hfate⟩
  · rw [hwork]
  · rw [hwork]
    induction fate with
    | send => exact absurd rfl hfate
    | _ => rfl

/-! What the abandonment of a frame in flight changes, and the answer to the frame's context. -/

theorem answered_within (n : Option Ctx) (s : State) :
    OnlyChanges [.ltx, .comp, .stats, .stat, .arb] s (answerAbandoned n (countAborted s)) :=
  (onlyChanges_of_frame [.ltx, .stats, .stat] (countAborted_frame s)).andThen
    (onlyChanges_of_frame [.arb, .comp, .ltx] (answerAbandoned_frame n _)) rfl

theorem answered_stats (n : Option Ctx) (s : State) : (answerAbandoned n (countAborted s)).stats = s.stats.counted [.txAborted] :=
  (onlyChanges_of_frame [.arb, .comp, .ltx] (answerAbandoned_frame n _)).same .stats rfl

theorem answered_stat (n : Option Ctx) (s : State) : (answerAbandoned n (countAborted s)).stat = s.stat.latched [.txAborted] :=
  (onlyChanges_of_frame [.arb, .comp, .ltx] (answerAbandoned_frame n _)).same .stat rfl

theorem answered_some {n : Option Ctx} {k : Ctx} (h : n = some k) :
    let t := answerAbandoned n (countAborted s)
    t.comp = { s.comp with work := .aborting k } ∧ t.arb = s.arb.asked s.store .compressor ∧
      t.ltx = { s.ltx with inFlight := none, rest := [], gap := 0 } := by
  subst h
  exact ⟨congrArg State.comp (request_eq ..), congrArg State.arb (request_eq ..), congrArg State.ltx (request_eq ..)⟩

theorem answered_none {n : Option Ctx} (h : n = none) :
    let t := answerAbandoned n (countAborted s)
    t.comp = { s.comp with work := .idle } ∧ t.arb = s.arb ∧
      t.ltx = { s.ltx with st := if s.ltx.enable then .idle else .disabled, inFlight := none, rest := [], gap := 0 } := by
  subst h
  exact ⟨rfl, rfl, rfl⟩

theorem ctsBlocks_of_not {s : State} (h : ¬ (s.cfg.ctsCheck = false ∨ s.pins.cts = true)) : s.ctsBlocks = true := by
  obtain ⟨hcheck, hcts⟩ := not_or.mp h
  unfold State.ctsBlocks
  rw [eq_true_of_ne_false hcheck, eq_false_of_ne_true hcts]
  rfl

theorem not_ctsBlocks {s : State} (h : s.cfg.ctsCheck = false ∨ s.pins.cts = true) : ¬ s.ctsBlocks = true := by
  unfold State.ctsBlocks
  rcases h with h | h
  · rw [h]
    exact Bool.false_ne_true
  · rw [h, Bool.not_true, Bool.and_false]
    exact Bool.false_ne_true

end

/-! ## Frame starts (08 R133 to R136) -/

section
variable {s : State}

theorem isEmpty_of_ne_nil {α : Type} {l : List α} (h : l ≠ []) : l.isEmpty = false :=
  Bool.eq_false_iff.mpr fun he => h (List.isEmpty_iff.mp he)

theorem frameChoice_feedback (hfbq : s.fbq ≠ []) (h : s.host.committed = [] ∨ s.ltx.alt = false) :
    s.frameChoice = .feedback := by
  unfold State.frameChoice
  rw [isEmpty_of_ne_nil hfbq]
  rcases h with h | h
  · rw [h]
    rfl
  · rw [h]
    induction s.host.committed.isEmpty <;> rfl

theorem frameChoice_message {m : Message} {rest : List Message} (hm : s.host.committed = m :: rest)
    (h : s.fbq = [] ∨ s.ltx.alt = true) : s.frameChoice = .message := by
  unfold State.frameChoice
  rw [hm]
  rcases h with h | h
  · rw [h]
    rfl
  · rw [h]
    induction s.fbq.isEmpty <;> rfl

theorem startFrame_of_nothing (hfbq : s.fbq = []) (hm : s.host.committed = []) : startFrame s = s := by
  have hstay : s.frameChoice = .stay := by
    unfold State.frameChoice
    rw [hfbq, hm]
    rfl
  unfold startFrame
  rw [hstay]

theorem startFrame_of_feedback (h : s.frameChoice = .feedback) :
    startFrame s = if s.ctsBlocks then enterHeld s else feedbackStart s := by
  unfold startFrame
  rw [h]

theorem startFrame_of_message (h : s.frameChoice = .message) {m : Message} {rest : List Message}
    (hm : s.host.committed = m :: rest) : startFrame s = if s.ctsBlocks then enterHeld s else messageStart m rest s := by
  unfold startFrame
  rw [h, hm]

/-- A start that CTS holds back, whatever waits. -/
theorem startFrame_of_held (hany : s.fbq ≠ [] ∨ s.host.committed ≠ []) (hblocks : s.ctsBlocks = true) :
    startFrame s = enterHeld s := by
  cases hm : s.host.committed with
  | nil =>
    have hfbq := hany.resolve_right fun h => h hm
    exact (startFrame_of_feedback (frameChoice_feedback hfbq (.inl hm))).trans (if_pos hblocks)
  | cons m rest =>
    by_cases hmessage : s.fbq = [] ∨ s.ltx.alt = true
    · exact (startFrame_of_message (frameChoice_message hm hmessage) hm).trans (if_pos hblocks)
    · obtain ⟨hfbq, halt⟩ := not_or.mp hmessage
      exact (startFrame_of_feedback (frameChoice_feedback hfbq (.inr (eq_false_of_ne_true halt)))).trans (if_pos hblocks)

end

/-- Settles O28: by the test of state and gap, then by the choice. -/
theorem frameStartWaits : Obligations.FrameStartWaits := by
  refine fun s => ⟨fun hwait => exec_next_of_eq rfl ?_, fun hidle hgap hany hcheck hcts => ?_⟩
  · refine ite_keeps (P := fun t => t = s) (fun hstart => ?_) fun _ => rfl
    obtain ⟨hidle, hgap⟩ := hstart
    rcases hwait with hst | hlt | ⟨hfbq, hm⟩
    · exact absurd hidle hst
    · exact absurd hlt (BitVec.not_lt.mpr hgap)
    · exact startFrame_of_nothing hfbq hm
  · have hblocks := ctsBlocks_of_not (s := s) (by rw [hcheck, hcts]; decide)
    exact exists_next rfl ((if_pos ⟨hidle, hgap⟩).trans (startFrame_of_held hany hblocks)) (by intro t; exact ⟨rfl, onlyChanges_of_eq [.ltx] rfl⟩)

/-- Settles O27: by the choice of the next frame. -/
theorem frameStarts : Obligations.FrameStarts := by
  refine fun s hidle hgap hpasses => ⟨fun hfbq hchoice => ?_, fun m rest hm hchoice => ?_⟩
  · exact exists_next rfl ((if_pos ⟨hidle, hgap⟩).trans ((startFrame_of_feedback (frameChoice_feedback hfbq hchoice)).trans
      (if_neg (not_ctsBlocks hpasses)))) (by intro t; exact ⟨rfl, rfl, onlyChanges_of_eq [.fbq, .ltx] rfl⟩)
  · exact exists_next rfl ((if_pos ⟨hidle, hgap⟩).trans ((startFrame_of_message (frameChoice_message hm hchoice) hm).trans
      ((if_neg (not_ctsBlocks hpasses)).trans (request_eq ..))))
      (by intro t; exact ⟨rfl, rfl, rfl, rfl, onlyChanges_of_eq [.host, .ltx, .comp, .arb] rfl⟩)

/-! ## Clear-to-send (08 R136, R138) -/

theorem leaveHeld_eq (s : State) :
    leaveHeld s = s.setLtx { s.ltx with st := if s.ltx.st = .held then .idle else s.ltx.st } := by
  unfold leaveHeld
  by_cases h : s.ltx.st = .held
  · rw [if_pos h, if_pos h]
  · rw [if_neg h, if_neg h]
    rfl

/-- Settles O33: by what the Compressor does with the frame. -/
theorem ctsChanges : Obligations.CtsChanges := by
  refine fun s => ⟨fun hnone => ?nothing, fun fl hcheck hst hfl hwork => ?abandoned, fun m f hcheck hst hwork => ?take,
    exists_next rfl (leaveHeld_eq (setCts true s)) (by intro t; exact ⟨rfl, rfl, onlyChanges_of_eq [.pins, .ltx] rfl⟩)⟩
  case nothing =>
    refine exists_next rfl (ite_keeps (P := fun t => t = setCts false s) (fun hcheck => ?_) fun _ => rfl)
      (by intro t; exact ⟨rfl, onlyChanges_setPins _ s⟩)
    rcases hnone with hclear | hst | haborting | htaking
    · exact absurd hcheck (ne_true_of_eq_false hclear)
    · exact abandonFrame_of_not_frame (s := setCts false s) hst
    · exact abandonFrame_of_abandoned (s := setCts false s) (.inl haborting)
    · exact abandonFrame_of_abandoned (s := setCts false s) (.inr htaking)
  case abandoned =>
    refine exists_next rfl ((if_pos hcheck).trans (abandonFrame_of_inFlight (s := setCts false s) hst hfl hwork)) ?_
    intro t
    have hwithin := answered_within fl.n (setCts false s)
    exact ⟨hwithin.same .pins rfl, answered_stats .., answered_stat .., (onlyChanges_setPins _ s).andThen hwithin rfl,
      fun n hn => answered_some hn, fun hn => answered_none hn⟩
  case take =>
    exact exists_next rfl ((if_pos hcheck).trans (abandonFrame_of_take (s := setCts false s) hst hwork))
      (by intro t; exact ⟨rfl, rfl, onlyChanges_of_eq [.pins, .comp] rfl⟩)

end Sys2Proof.Machine

/-! PROOFS. The Line Transmitter: the line enables, byte slots, the end of a frame, and abandoned takes. -/

namespace Sys2Proof.Machine

/-! ## The line enables (07 R117, 08 R131, R137) -/

theorem startTransmitter_of_enabled {s : State} (h : s.ltx.enable = true) : startTransmitter s =
    if s.ltx.st = .disabled ∧ s.store.st ≠ .starting then s.setLtx { s.ltx with st := .idle, gap := 0, alt := false } else s :=
  if_congr (and_iff_right h) rfl rfl

theorem startReceiver_of_enabled {s : State} (h : s.lrx.enable = true) : startReceiver s =
    if s.lrx.st = .disabled ∧ s.store.st ≠ .starting then enterHunt s else s := if_congr (and_iff_right h) rfl rfl

theorem writeTransmitEnable_off_of_not_frame {s : State} (h : s.ltx.st ≠ .frame) :
    writeTransmitEnable false s = s.setLtx { s.ltx with enable := false, st := .disabled } := by
  unfold writeTransmitEnable
  dsimp only
  cases hst : s.ltx.st with
  | disabled => rfl
  | frame => exact absurd hst h
  | _ => rfl

theorem writeTransmitEnable_off_of_frame {s : State} (h : s.ltx.st = .frame) :
    writeTransmitEnable false s = abandonFrame (s.setLtx { s.ltx with enable := false }) := by
  unfold writeTransmitEnable
  dsimp only
  rw [h]
  rfl

theorem writeReceiveEnable_off (s : State) : writeReceiveEnable false s = s.setLrx { s.lrx with
    enable := false, st := .disabled
    bufs := match s.lrx.st with
      | .frame _ _ k _ _ => s.lrx.bufs.set k .empty
      | _ => s.lrx.bufs } := by
  unfold writeReceiveEnable abandonReception
  induction s.lrx.st <;> rfl

/-- While a frame is sent, TX_ENABLE off abandons it. -/
theorem transmitDisable_of_frame {s : State} (hopen : HostOpen s) (h : s.ltx.st = .frame) :
    hostAccess (writeTransmitEnable false) s = abandonFrame (s.setLtx { s.ltx with enable := false }) :=
  (hostAccess_of_hostOpen hopen _).trans (writeTransmitEnable_off_of_frame h)

/-- Settles O35: an enabled side starts unless it runs or the store is STARTING; a disabled transmitter abandons its frame. -/
theorem lineEnables : Obligations.LineEnables := by
  refine fun s hopen => ⟨?on, fun hst => ?off, fun fl hst hfl hwork => ?abandoned, fun m f fate hst hwork => ?take,
    fun n hst hwork => ?aborting, ?rxOn, ?rxOff⟩
  case on =>
    refine exists_next rfl ((hostAccess_of_hostOpen hopen _).trans
      (startTransmitter_of_enabled (s := s.setLtx { s.ltx with enable := true }) rfl)) ?_
    intro t
    exact ⟨ite_keeps (fun _ => onlyChanges_of_eq _ rfl) fun _ => onlyChanges_of_eq _ rfl, apply_ite State.ltx ..⟩
  case off =>
    exact exists_next rfl ((hostAccess_of_hostOpen hopen _).trans (writeTransmitEnable_off_of_not_frame hst))
      (by intro t; exact ⟨rfl, onlyChanges_of_eq [.ltx] rfl⟩)
  case abandoned =>
    refine exists_next rfl ((transmitDisable_of_frame hopen hst).trans (abandonFrame_of_inFlight (s := s.setLtx _) hst hfl hwork)) ?_
    intro t
    exact ⟨answered_stats .., answered_stat .., (onlyChanges_of_eq [.ltx] rfl).andThen (answered_within _ _) rfl,
      fun n hn => answered_some hn, fun hn => answered_none hn⟩
  case take =>
    exact exists_next rfl ((transmitDisable_of_frame hopen hst).trans (abandonFrame_of_taking (s := s.setLtx _) hst hwork))
      (by intro t; exact ⟨rfl, rfl, onlyChanges_of_eq [.ltx, .comp] rfl⟩)
  case aborting =>
    exact exists_next rfl ((transmitDisable_of_frame hopen hst).trans (abandonFrame_of_abandoned (s := s.setLtx _) (.inl ⟨n, hwork⟩)))
      (by intro t; exact ⟨rfl, onlyChanges_of_eq [.ltx] rfl⟩)
  case rxOn =>
    refine exists_next rfl ((hostAccess_of_hostOpen hopen _).trans
      (startReceiver_of_enabled (s := s.setLrx { s.lrx with enable := true }) rfl)) ?_
    intro t
    exact ⟨ite_keeps (fun _ => onlyChanges_of_eq _ rfl) fun _ => onlyChanges_of_eq _ rfl, apply_ite State.lrx ..⟩
  case rxOff =>
    exact exists_next rfl ((hostAccess_of_hostOpen hopen _).trans (writeReceiveEnable_off s))
      (by intro t; exact ⟨onlyChanges_of_eq [.lrx] rfl, rfl⟩)

/-! ## Byte slots (08 R131, R132, R138) -/

section
variable {s : State}

theorem slotByte_of_disabled (h : s.ltx.st = .disabled) : slotByte s = sendBytes [0xFF#8] s := by rw [slotByte, h]

theorem satInc_gap (g : BitVec 4) : satInc g = if g = 15 then 15 else g + 1 := by
  revert g
  decide

theorem slotByte_of_waiting (h : s.ltx.st = .idle ∨ s.ltx.st = .held) : slotByte s =
    sendBytes [s.cfg.idleFill] (s.setLtx { s.ltx with gap := if s.ltx.gap = 15 then 15 else s.ltx.gap + 1 }) := by
  rw [← satInc_gap]
  rcases h with h | h <;> rw [slotByte, h]

theorem slotByte_of_frame (h : s.ltx.st = .frame) : slotByte s =
    match s.ltx.rest with
    | [] => sendBytes [s.cfg.idleFill] s
    | [_] => s
    | b :: c :: bs => sendBytes [b] (s.setLtx { s.ltx with rest := c :: bs }) := by
  rw [slotByte, h] <;> rfl

theorem slotByte_of_sent (h : s.ltx.st = .frame) (hrest : s.ltx.rest = []) : slotByte s = sendBytes [s.cfg.idleFill] s := by
  rw [slotByte_of_frame h, hrest]

theorem slotByte_of_last {x : Byte} (h : s.ltx.st = .frame) (hrest : s.ltx.rest = [x]) : slotByte s = s := by
  rw [slotByte_of_frame h, hrest]

theorem slotByte_of_more {x y : Byte} {bs : List Byte} (h : s.ltx.st = .frame) (hrest : s.ltx.rest = x :: y :: bs) :
    slotByte s = sendBytes [x] (s.setLtx { s.ltx with rest := y :: bs }) := by
  rw [slotByte_of_frame h, hrest]

theorem byteSlot_of_passes (h : s.cfg.ctsCheck = false ∨ s.pins.cts = true) : byteSlot s = slotByte s :=
  congrArg slotByte (if_neg (not_ctsBlocks h))

theorem byteSlot_of_blocks (h : ¬ (s.cfg.ctsCheck = false ∨ s.pins.cts = true)) : byteSlot s = slotByte (abandonFrame s) :=
  congrArg slotByte (if_pos (ctsBlocks_of_not h))

/-- A byte slot in which there is nothing to abandon. -/
theorem byteSlot_of_unabandoned (h : abandonFrame s = s) : byteSlot s = slotByte s :=
  congrArg slotByte (ite_keeps (P := fun t => t = s) (fun _ => h) fun _ => rfl)

section
variable {u : State} {l : LineTx} (hframe : OnlyChanges [.ltx, .comp, .stats, .stat, .arb] s u) (hltx : u.ltx = l)
include hframe hltx

/-- The byte of a slot after the frame's bytes. -/
theorem slotByte_sent_fields (hst : l.st = .frame) (hrest : l.rest = []) :
    (slotByte u).ltx = l ∧ (slotByte u).pins = { s.pins with txd := [s.cfg.idleFill] } := by
  subst hltx
  rw [slotByte_of_sent hst hrest, ← show u.pins = s.pins from hframe.same .pins rfl, ← show u.cfg = s.cfg from hframe.same .cfg rfl]
  exact ⟨rfl, rfl⟩

/-- The byte of a slot between frames. -/
theorem slotByte_idle_fields (hst : l.st = .idle) (hgap : l.gap = 0) :
    (slotByte u).ltx = { l with gap := 1 } ∧ (slotByte u).pins = { s.pins with txd := [s.cfg.idleFill] } := by
  subst hltx
  rw [slotByte_of_waiting (.inl hst), ← show u.pins = s.pins from hframe.same .pins rfl, ← show u.cfg = s.cfg from hframe.same .cfg rfl,
    hgap]
  exact ⟨rfl, rfl⟩

/-- The byte of a slot of a disabled transmitter. -/
theorem slotByte_disabled_fields (hst : l.st = .disabled) :
    (slotByte u).ltx = l ∧ (slotByte u).pins = { s.pins with txd := [0xFF#8] } := by
  subst hltx
  rw [slotByte_of_disabled hst, ← show u.pins = s.pins from hframe.same .pins rfl]
  exact ⟨rfl, rfl⟩

end

theorem byteSlot_of_not_frame (h : s.ltx.st ≠ .frame) : byteSlot s = slotByte s :=
  byteSlot_of_unabandoned (abandonFrame_of_not_frame h)

/-- The byte of the slot in which a frame in flight is abandoned. -/
theorem slotByte_answered (fl : InFlight) (h : s.ltx.st = .frame) :
    AbandonedInSlot fl s (slotByte (answerAbandoned fl.n (countAborted s))) := by
  have hwithin := answered_within fl.n s
  have hidle (b) (hb : s.ltx.enable = b) := congrArg (fun b : Bool => ({ s.ltx with
    st := if b then .idle else .disabled, inFlight := none, rest := [], gap := 0 } : LineTx)) hb
  have hslot := onlyChanges_of_frame [.pins, .ltx] (slotByte_frame (answerAbandoned fl.n (countAborted s)))
  refine ⟨(hslot.same .stats rfl).trans (answered_stats ..), (hslot.same .stat rfl).trans (answered_stat ..), hwithin.andThen hslot rfl,
    fun k hk => ⟨(hslot.same .comp rfl).trans (answered_some hk).1, (hslot.same .arb rfl).trans (answered_some hk).2.1, ?_⟩,
    fun hn => ⟨(hslot.same .comp rfl).trans (answered_none hn).1, (hslot.same .arb rfl).trans (answered_none hn).2.1,
      fun hon => ?_, fun hoff => ?_⟩⟩
  · exact slotByte_sent_fields hwithin (answered_some hk).2.2 h rfl
  · exact slotByte_idle_fields hwithin ((answered_none hn).2.2.trans (hidle _ hon)) rfl rfl
  · exact slotByte_disabled_fields hwithin ((answered_none hn).2.2.trans (hidle _ hoff)) rfl

theorem byteSlot_abandons {fl : InFlight} (h : s.ltx.st = .frame) (hfl : s.ltx.inFlight = some fl)
    (hwork : s.comp.work = .sending ∨ s.comp.work = .idle) (hblocks : ¬ (s.cfg.ctsCheck = false ∨ s.pins.cts = true)) :
    AbandonedInSlot fl s (byteSlot s) := by
  rw [byteSlot_of_blocks hblocks, abandonFrame_of_inFlight h hfl hwork]
  exact slotByte_answered fl h

end

/-- Settles O36, by the state of the transmitter and the bytes that the frame still has. -/
theorem byteSlots : Obligations.ByteSlots := by
  intro s passes
  refine ⟨fun hst => ?disabled, fun hst => ?waiting, fun hst hrest hwhy => ?sent, fun x hst hrest hpass => ?last,
    fun x y bs hst hrest hpass => ?next, fun fl hst hfl hwork hblocks => ⟨_, rfl, byteSlot_abandons hst hfl hwork hblocks⟩,
    fun m f hst hrest hwork hblocks => ?take⟩
  case disabled =>
    exact exists_next rfl ((byteSlot_of_not_frame (hst ▸ TxLineState.noConfusion)).trans (slotByte_of_disabled hst)) (by intro t; exact ⟨rfl, onlyChanges_setPins _ s⟩)
  case waiting =>
    exact exists_next rfl ((byteSlot_of_not_frame (hst.elim (· ▸ TxLineState.noConfusion) (· ▸ TxLineState.noConfusion))).trans
      (slotByte_of_waiting hst)) (by intro t; exact ⟨rfl, rfl, onlyChanges_of_eq [.pins, .ltx] rfl⟩)
  case sent =>
    have hbyte : byteSlot s = slotByte s := hwhy.elim byteSlot_of_passes fun h => byteSlot_of_unabandoned (abandonFrame_of_abandoned h)
    exact exists_next rfl (hbyte.trans (slotByte_of_sent hst hrest)) (by intro t; exact ⟨rfl, onlyChanges_setPins _ s⟩)
  case last =>
    exact exec_next_of_eq rfl ((byteSlot_of_passes hpass).trans (slotByte_of_last hst hrest))
  case next =>
    exact exists_next rfl ((byteSlot_of_passes hpass).trans (slotByte_of_more hst hrest)) (by intro t; exact ⟨rfl, rfl, onlyChanges_of_eq [.pins, .ltx] rfl⟩)
  case take =>
    have hsent := slotByte_of_sent (s := s.setComp { s.comp with work := .taking m f .abandon }) hst hrest
    exact exists_next rfl ((byteSlot_of_blocks hblocks).trans ((congrArg slotByte (abandonFrame_of_take hst hwork)).trans hsent))
      (by intro t; exact ⟨rfl, rfl, onlyChanges_of_eq [.pins, .comp] rfl⟩)

/-! ## The end of a frame (08 R134, R135) -/

theorem exec_feedbackFrameSent {s : State} (hst : s.ltx.st = .frame) (hfl : s.ltx.inFlight = some ⟨.feedback, none⟩) :
    exec .feedbackFrameSent s = .next (if s.ctsBlocks then byteSlot s else lastByteSent .feedback s) := by
  refine congrArg Host.Outcome.next ?_
  rw [hst, hfl]

theorem exec_messageFrameSent {s : State} {fl : InFlight} (hst : s.ltx.st = .frame) (hwork : s.comp.work = .sending)
    (hfl : s.ltx.inFlight = some fl) : exec .messageFrameSent s =
      .next (if s.ctsBlocks then byteSlot s else lastByteSent fl.kind (s.setComp { s.comp with work := .idle })) := by
  refine congrArg Host.Outcome.next ?_
  rw [hst, hwork, hfl]

/-- Settles O32: the CTS test comes before the last byte. -/
theorem frameSentIsCounted : Obligations.FrameSentIsCounted := by
  intro s hst passes sent
  refine ⟨fun hfl hpass => ?_, fun fl hfl hwork hkind hpass => ?_, fun hfl hwork hblocks => ?_, fun fl hfl hwork hblocks => ?_⟩
  · exact exists_next (exec_feedbackFrameSent hst hfl) (if_neg (not_ctsBlocks hpass))
      (by intro t; exact ⟨rfl, rfl, rfl, onlyChanges_of_frame _ (lastByteSent_frame .feedback s)⟩)
  · exact exists_next (exec_messageFrameSent hst hwork hfl) (if_neg (not_ctsBlocks hpass))
      (by intro t; exact ⟨rfl, rfl, rfl, rfl, (onlyChanges_of_eq [.comp] rfl).andThen (onlyChanges_of_frame [.pins, .ltx, .stats] (lastByteSent_frame ..)) rfl⟩)
  · exact exists_next (exec_feedbackFrameSent hst hfl) (if_pos (ctsBlocks_of_not hblocks))
      (byteSlot_abandons hst hfl (.inr hwork) hblocks)
  · exact exists_next (exec_messageFrameSent hst hwork hfl) (if_pos (ctsBlocks_of_not hblocks))
      (byteSlot_abandons hst hfl (.inl hwork) hblocks)

end Sys2Proof.Machine

/-! PROOFS. A requester waits for the store or holds it exactly while it has a transaction to make. -/

namespace Sys2Proof.Machine

/-! ## Requests and grants (03 R45, R46) -/

/-- The requesters that have a transaction to make. -/
noncomputable def State.asks (s : State) : Requester → Bool
  | .expander => s.exp.asks
  | .compressor => s.comp.work.asks
  | .command => s.cu.st.busyBit
  | .sweep => s.sweep.idx.isSome

/-- The arbiter knows exactly the requests `asks`; `started`: the store is not STARTING. -/
structure ArbiterMatched (asks : Requester → Bool) (started : Prop) (a : Arbiter) : Prop where
  asks : ∀ q, (a.waits q || decide (a.granted = some q)) = asks q
  single : ∀ q, a.waits q = true → a.granted ≠ some q
  quiet : started → a.granted = none → ∀ q, a.waits q = false
  held : ∀ q, a.granted = some q → started

/-- A Compressor at work keeps the transmitter in FRAME, with no feedback frame in flight. -/
structure LineMatched (work : CompWork) (l : LineTx) : Prop where
  line : l.st ≠ .frame → work = .idle
  feedback : ∀ f, l.inFlight = some f → f.kind = .feedback → work = .idle

theorem LineMatched.of_idle {work : CompWork} (h : work = .idle) (l : LineTx) : LineMatched work l :=
  ⟨fun _ => h, fun _ _ _ => h⟩

/-- A frame whose bytes are not known yet. -/
theorem LineMatched.of_frame {l : LineTx} (hst : l.st = .frame) (hfl : l.inFlight = none) (work : CompWork) :
    LineMatched work l := ⟨fun h => absurd hst h, fun _ h => absurd (h.symm.trans hfl) (Option.some_ne_none _)⟩

theorem LineMatched.frame_of_ne_idle {work : CompWork} {l : LineTx} (h : LineMatched work l) (hwork : work ≠ .idle) :
    l.st = .frame := by_contra fun hst => hwork (h.line hst)

theorem setWait_waits (v : Bool) (q p : Requester) (a : Arbiter) :
    (a.setWait v q).waits p = if p = q then v else a.waits p := by
  induction q <;> induction p <;> rfl

theorem setWait_granted (v : Bool) (q : Requester) (a : Arbiter) : (a.setWait v q).granted = a.granted := by
  induction q <;> rfl

/-- Who waits does not depend on who was granted. -/
theorem waits_of_granting (a : Arbiter) (g : Option Requester) (l : Requester) (v : Bool) (p : Requester) :
    ({ a with granted := g, last := l, tested := v } : Arbiter).waits p = a.waits p := by
  induction p <;> rfl

section
variable {asks asks' : Requester → Bool} {a : Arbiter} {q : Requester}

/-- An arbiter with no transaction in progress acts. -/
theorem ArbiterMatched.of_free (hfree : a.granted = none) (hasks : ∀ p, a.waits p = asks p) (t : Store) :
    ArbiterMatched asks (t.st ≠ .starting) (if t.st = .starting then a else a.grant t.heldUncorrected) := by
  have hnot : ∀ p, a.granted ≠ some p := fun p h => Option.some_ne_none p (h.symm.trans hfree)
  have hkept : ∀ p, (a.waits p || decide (a.granted = some p)) = asks p := fun p => by
    rw [decide_eq_false (hnot p), Bool.or_false, hasks]
  by_cases hst : t.st = .starting
  · rw [if_pos hst]
    exact ⟨hkept, fun p _ => hnot p, fun h => absurd hst h, fun p h => absurd h (hnot p)⟩
  · rw [if_neg hst]
    cases hfind : (ringAfter a.last).find? a.waits with
    | none =>
      have hquiet : ∀ p, a.waits p = false := fun p =>
        eq_false_of_ne_true (List.find?_eq_none.mp hfind p (Requester.mem_ring ..))
      rw [grant_of_none_waiting hfree hquiet]
      exact ⟨hkept, fun p _ => hnot p, fun _ _ => hquiet, fun p h => absurd h (hnot p)⟩
    | some r =>
      have hr : a.waits r = true := List.find?_some hfind
      rw [grant_of_find hfree hfind]
      have hwaits := fun p => (waits_of_granting (a.setWait false r) (some r) r t.heldUncorrected p).trans (setWait_waits false r p a)
      refine ⟨fun p => ?_, fun p hp hg => ?_, fun _ h => absurd h (Option.some_ne_none _), fun _ _ => hst⟩
      · rw [hwaits]
        by_cases hpr : p = r
        · rw [if_pos hpr, hpr, decide_eq_true rfl]
          exact (hr.symm.trans (hasks r) :)
        · rw [if_neg hpr, decide_eq_false fun h => hpr (Option.some.inj h).symm, Bool.or_false]
          exact hasks p
      · exact Bool.false_ne_true ((if_pos (Option.some.inj hg).symm).symm.trans ((hwaits p).symm.trans hp))

/-- A requester with nothing to make asks for a transaction. -/
theorem ArbiterMatched.asked {t : Store} (h : ArbiterMatched asks (t.st ≠ .starting) a) (hq : asks q = false)
    (hasks : ∀ p, asks' p = (decide (p = q) || asks p)) : ArbiterMatched asks' (t.st ≠ .starting) (a.asked t q) := by
  have hwaits : ∀ p, ((a.setWait true q).waits p || decide (a.granted = some p)) = asks' p := fun p => by
    rw [setWait_waits, hasks, ← h.asks p]
    by_cases hpq : p = q
    · rw [if_pos hpq, decide_eq_true hpq, Bool.true_or, Bool.true_or]
    · rw [if_neg hpq, decide_eq_false hpq, Bool.false_or]
  cases hg : a.granted with
  | none =>
    refine .of_free ((setWait_granted ..).trans hg) (fun p => ?_) t
    rw [← hwaits p, hg]
    exact (Bool.or_false _).symm
  | some r =>
    have hst := h.held r hg
    have hkept : a.asked t q = a.setWait true q :=
      (if_neg hst).trans (grant_of_granted (fun hn => Option.some_ne_none r (hg.symm.trans ((setWait_granted ..).symm.trans hn))) _)
    rw [hkept]
    refine ⟨fun p => (setWait_granted true q a).symm ▸ hwaits p, fun p hp hgp => ?_,
      fun _ hn => absurd (hg.symm.trans ((setWait_granted ..).symm.trans hn)) (Option.some_ne_none r), fun _ _ => hst⟩
    rw [setWait_granted] at hgp
    rw [setWait_waits] at hp
    by_cases hpq : p = q
    · have hheld := (Bool.or_eq_false_iff.mp ((h.asks q).trans hq)).2
      exact of_decide_eq_false hheld (hpq ▸ hgp)
    · exact h.single p ((if_neg hpq).symm.trans hp) hgp

/-- The transaction of `q` ends, and `q` has no other. -/
theorem ArbiterMatched.ended {st : Prop} (h : ArbiterMatched asks st a) (hg : a.granted = some q)
    (hasks : ∀ p, asks' p = (!decide (p = q) && asks p)) (t : Store) :
    ArbiterMatched asks' (t.st ≠ .starting) (a.ended t) := by
  refine .of_free (a := { a with granted := none }) rfl (fun p => (waits_of_granting a none a.last a.tested p).trans ?_) t
  rw [hasks, ← h.asks p, hg]
  by_cases hpq : p = q
  · rw [decide_eq_true hpq]
    exact eq_false_of_ne_true fun hw => h.single p hw (hpq ▸ hg)
  · rw [decide_eq_false hpq, decide_eq_false fun he => hpq (Option.some.inj he).symm, Bool.or_false]
    rfl

/-- The transaction of `q` ends, and `q` asks for the next. -/
theorem ArbiterMatched.again {st : Prop} (h : ArbiterMatched asks st a) (hg : a.granted = some q) (t : Store) :
    ArbiterMatched asks (t.st ≠ .starting) ((a.setWait true q).ended t) := by
  refine .of_free (a := { a.setWait true q with granted := none }) rfl
    (fun p => (waits_of_granting (a.setWait true q) none _ _ p).trans ((setWait_waits ..).trans ?_)) t
  rw [← h.asks p, hg]
  by_cases hpq : p = q
  · rw [if_pos hpq, hpq, decide_eq_true rfl, Bool.or_true]
  · rw [if_neg hpq, decide_eq_false fun he => hpq (Option.some.inj he).symm, Bool.or_false]

end

/-! ## The requests of a state -/

structure Matched (s : State) : Prop where
  arb : ArbiterMatched s.asks (s.store.st ≠ .starting) s.arb
  line : LineMatched s.comp.work s.ltx

theorem Matched.of_obligation {s : State} (h : RequestsMatched s) : Matched s := by
  obtain ⟨hexp, hcomp, hcu, hsweep, hsingle, hquiet, hstarting, hline, hfeedback⟩ := h
  refine ⟨⟨fun q => ?_, fun q hw hg => hsingle q ⟨hw, decide_eq_true hg⟩, hquiet, fun q hg hst => ?_⟩, hline, hfeedback⟩
  · induction q with
    | expander => exact hexp
    | compressor => exact hcomp
    | command => exact hcu
    | sweep => exact hsweep
  · exact Option.some_ne_none q (hg.symm.trans (hstarting hst))

theorem Matched.to_obligation {s : State} (h : Matched s) : RequestsMatched s := by
  obtain ⟨⟨hasks, hsingle, hquiet, hheld⟩, hline, hfeedback⟩ := h
  exact ⟨hasks .expander, hasks .compressor, hasks .command, hasks .sweep, fun q hq => hsingle q hq.1 (of_decide_eq_true hq.2),
    hquiet, fun hst => Option.eq_none_iff_forall_ne_some.mpr fun q hg => hheld q hg hst, hline, hfeedback⟩

/-- The transaction of `q` is in progress. -/
structure Running (q : Requester) (s : State) : Prop where
  granted : s.arb.granted = some q
  arb : ArbiterMatched s.asks True s.arb
  line : LineMatched s.comp.work s.ltx

/-- The blocks that make requests. -/
noncomputable def requestBlocks : List Block := [.arb, .exp, .comp, .cu, .sweep, .ltx]

section
variable {s t u : State} {q : Requester} {bs : List Block}

theorem asks_eq (hexp : t.exp.asks = s.exp.asks) (hcomp : t.comp.work.asks = s.comp.work.asks)
    (hcu : t.cu.st.busyBit = s.cu.st.busyBit) (hsweep : t.sweep.idx.isSome = s.sweep.idx.isSome) : t.asks = s.asks := by
  funext p
  induction p with
  | expander => exact hexp
  | compressor => exact hcomp
  | command => exact hcu
  | sweep => exact hsweep

theorem not_mem_of_all {cs : List Block} (hbs : cs.all (fun b => !bs.contains b) = true) (b : Block)
    (hb : cs.contains b = true) : bs.contains b = false :=
  Bool.not_eq_true' _ ▸ List.all_eq_true.mp hbs b (List.contains_iff_mem.mp hb)

theorem OnlyChanges.asks (h : OnlyChanges bs s t)
    (hbs : [Block.exp, .comp, .cu, .sweep].all (fun b => !bs.contains b) = true) : t.asks = s.asks :=
  have hsame := fun b hb => h.same b (not_mem_of_all hbs b hb)
  asks_eq (congrArg ExpState.asks (hsame .exp rfl)) (congrArg (fun c : Compressor => c.work.asks) (hsame .comp rfl))
    (congrArg (fun c : CmdUnit => c.st.busyBit) (hsame .cu rfl)) (congrArg (fun x : Sweep => x.idx.isSome) (hsame .sweep rfl))

/-- What an operation outside the requests' blocks leaves. -/
theorem OnlyChanges.requests (h : OnlyChanges bs s t) (hbs : requestBlocks.all (fun b => !bs.contains b) = true) :
    t.arb = s.arb ∧ t.asks = s.asks ∧ t.comp = s.comp ∧ t.ltx = s.ltx := by
  have hout := not_mem_of_all hbs
  exact ⟨h.same .arb (hout _ rfl), h.asks (List.all_eq_true.mpr fun b hb => List.all_eq_true.mp hbs b (by revert b; decide)),
    h.same .comp (hout _ rfl), h.same .ltx (hout _ rfl)⟩

theorem Matched.of_same (h : Matched s) (harb : t.arb = s.arb) (hasks : t.asks = s.asks) (hst : t.store.st = s.store.st)
    (hline : LineMatched t.comp.work t.ltx) : Matched t :=
  ⟨by rw [harb, hasks, hst]; exact h.arb, hline⟩

theorem Matched.of_frame (h : Matched s) (hframe : OnlyChanges bs s t)
    (hbs : requestBlocks.all (fun b => !bs.contains b) = true) (hst : t.store.st = s.store.st) : Matched t := by
  obtain ⟨harb, hasks, hcomp, hltx⟩ := hframe.requests hbs
  exact h.of_same harb hasks hst (hcomp ▸ hltx ▸ h.line)

/-- The store is outside the frame too. -/
theorem Matched.of_frameStore (h : Matched s) (hframe : OnlyChanges bs s t)
    (hbs : (Block.store :: requestBlocks).all (fun b => !bs.contains b) = true) : Matched t := by
  obtain ⟨hstore, hbs⟩ := Bool.and_eq_true_iff.mp hbs
  exact h.of_frame hframe hbs (congrArg Store.st (hframe.same .store (Bool.not_eq_true' _ ▸ hstore)))

theorem Running.of_frame (h : Running q s) (hframe : OnlyChanges bs s t)
    (hbs : requestBlocks.all (fun b => !bs.contains b) = true) : Running q t := by
  obtain ⟨harb, hasks, hcomp, hltx⟩ := hframe.requests hbs
  exact ⟨harb ▸ h.granted, by rw [harb, hasks]; exact h.arb, hcomp ▸ hltx ▸ h.line⟩

theorem Matched.running (h : Matched s) (hq : s.holds q = true) : Running q s :=
  have hg : s.arb.granted = some q := of_decide_eq_true hq
  ⟨hg, ⟨h.arb.asks, h.arb.single, fun _ hn => absurd (hg.symm.trans hn) (Option.some_ne_none q), fun _ _ => trivial⟩, h.line⟩

theorem Running.done (h : Running q u) (harb : t.arb = u.arb) (hasks : ∀ p, t.asks p = (!decide (p = q) && u.asks p))
    (hline : LineMatched t.comp.work t.ltx) : Matched (endTransaction t) := by
  rw [endTransaction_eq, harb]
  exact ⟨h.arb.ended h.granted hasks t.store, hline⟩

theorem Running.again (h : Running q u) (harb : t.arb = u.arb) (hasks : t.asks = u.asks)
    (hline : LineMatched t.comp.work t.ltx) : Matched (endAndRequest q t) := by
  rw [endAndRequest, endTransaction_eq, harb]
  exact ⟨(hasks ▸ h.arb.again h.granted t.store : ArbiterMatched t.asks _ _), hline⟩

theorem Matched.request (h : Matched s) (hq : s.asks q = false) (harb : t.arb = s.arb) (hst : t.store.st = s.store.st)
    (hasks : ∀ p, t.asks p = (decide (p = q) || s.asks p)) (hline : LineMatched t.comp.work t.ltx) :
    Matched (request q t) := by
  rw [request_eq, harb]
  exact ⟨(hst ▸ h.arb : ArbiterMatched s.asks (t.store.st ≠ .starting) s.arb).asked hq hasks, hline⟩

end

end Sys2Proof.Machine

/-! PROOFS. Every command keeps the requests matched. -/

namespace Sys2Proof.Machine

/-! ## The Line Transmitter and the Compressor (05, 08) -/

/-- The Compressor at work goes on to other work. -/
theorem LineMatched.of_busy {work : CompWork} {l : LineTx} (h : LineMatched work l) (hne : work ≠ .idle) (work' : CompWork) :
    LineMatched work' l := ⟨fun hst => absurd (h.line hst) hne, fun f hf hk => absurd (h.feedback f hf hk) hne⟩

section
variable {s t : State} {bs : List Block}

/-- The transmitter moves while the Compressor is idle. -/
theorem Matched.setLtx (h : Matched s) (hidle : s.comp.work = .idle) (l : LineTx) : Matched (s.setLtx l) :=
  ⟨h.arb, .of_idle hidle l⟩

/-- A frame without bytes is answered. -/
theorem Matched.answer (h : Matched s) (hasks : s.comp.work.asks = false) (hst : s.ltx.st = .frame)
    (hfl : s.ltx.inFlight = none) (n : Option Ctx) : Matched (answerAbandoned n s) := by
  induction n with
  | none =>
    exact h.of_same (t := leaveFrame (s.setComp { s.comp with work := .idle })) rfl (asks_eq rfl hasks.symm rfl rfl) rfl
      (.of_idle rfl _)
  | some k =>
    exact h.request (t := s.setComp { s.comp with work := .aborting k }) hasks rfl rfl
      (fun p => by induction p <;> rfl) (.of_frame hst hfl _)

theorem Matched.countAborted (h : Matched s) (hst : s.ltx.st = .frame) : Matched (countAborted s) :=
  ⟨h.arb, .of_frame (l := { s.ltx with inFlight := none, rest := [], gap := 0 }) hst rfl _⟩

theorem Matched.abandonFrame (h : Matched s) : Matched (abandonFrame s) := by
  refine abandonFrame_cases s h (fun m f hwork => ?_) fun fl hst hfl hasks =>
    (h.countAborted hst).answer hasks hst rfl fl.n
  have hasks : s.comp.work.asks = true := congrArg CompWork.asks hwork
  exact h.of_same rfl (asks_eq rfl hasks.symm rfl rfl) rfl (h.line.of_busy (fun hidle => CompWork.noConfusion (hidle.symm.trans hwork)) _)

theorem Matched.byteSlot (h : Matched s) : Matched (byteSlot s) :=
  byteSlot_cases s (fun u t hframe hltx hu => hu.of_same (hframe.same .arb rfl)
    (hframe.asks rfl) (congrArg Store.st (hframe.same .store rfl)) (by
      have hcomp : t.comp = u.comp := hframe.same .comp rfl
      rw [hltx, hcomp]
      exact ⟨hu.line.line, hu.line.feedback⟩)) h h.abandonFrame

/-- The transmitter is neither in FRAME before nor after. -/
theorem Matched.leaveHeld (h : Matched s) : Matched (leaveHeld s) :=
  ite_keeps (fun hst => h.setLtx (h.line.line (by rw [hst]; decide)) _) fun _ => h

theorem Matched.startTransmitter (h : Matched s) : Matched (startTransmitter s) :=
  ite_keeps (fun hst => h.setLtx (h.line.line (by rw [hst.2.1]; decide)) _) fun _ => h

theorem Matched.writeTransmitEnable (h : Matched s) (on : Bool) : Matched (writeTransmitEnable on s) := by
  have henable : ∀ on, Matched (s.setLtx { s.ltx with enable := on }) := fun on => ⟨h.arb, ⟨h.line.line, h.line.feedback⟩⟩
  induction on with
  | true => exact (henable true).startTransmitter
  | false =>
    by_cases hst : s.ltx.st = .frame
    · exact writeTransmitEnable_off_of_frame hst ▸ (henable false).abandonFrame
    · exact writeTransmitEnable_off_of_not_frame hst ▸ h.setLtx (h.line.line hst) _

theorem Matched.startFrame (h : Matched s) (hst : s.ltx.st = .idle) : Matched (startFrame s) := by
  have hidle : s.comp.work = .idle := h.line.line (by rw [hst]; decide)
  have hheld : Matched (enterHeld s) := h.setLtx hidle _
  unfold Machine.startFrame
  induction s.frameChoice with
  | stay => exact h
  | feedback => exact ite_keeps (fun _ => hheld) fun _ => ⟨h.arb, .of_idle hidle _⟩
  | message =>
    induction s.host.committed with
    | nil => exact h
    | cons m rest _ =>
      refine ite_keeps (fun _ => hheld) fun _ => ?_
      exact h.request (q := .compressor) (congrArg CompWork.asks hidle) rfl rfl (fun p => by induction p <;> rfl) (.of_frame rfl rfl _)

theorem Matched.lastByteSent (h : Matched s) (hidle : s.comp.work = .idle) (k : FrameKind) : Matched (lastByteSent k s) :=
  ⟨h.arb, .of_idle hidle _⟩

/-! ## Takes (05 R85 to R100) -/

/-- A take builds no feedback frame. -/
theorem takeMessage_kind (m : Message) (s : State) : (takeMessage m s).2.kind ≠ .feedback := by
  have hraw : ∀ u, (sendRaw m u).2.kind ≠ .feedback := fun _ => FrameKind.noConfusion
  have hite : ∀ {c : Prop} [Decidable c] {x y : State × Built}, x.2.kind ≠ .feedback → y.2.kind ≠ .feedback →
      (if c then x else y).2.kind ≠ .feedback := fun hx hy => ite_keeps (P := fun z : State × Built => z.2.kind ≠ .feedback) (fun _ => hx) fun _ => hy
  have hafter : ∀ u, (afterCandidates m u).2.kind ≠ .feedback := fun u => by
    refine hite (hraw u) ?_
    induction u.opening (Header.ofBytes m).key.bucket with
    | some p => exact FrameKind.noConfusion
    | none => induction u.victim (Header.ofBytes m).key.bucket with
      | some v => exact FrameKind.noConfusion
      | none => exact hraw u
  have hnone : ∀ u, (noMatch m u).2.kind ≠ .feedback := fun u => by
    refine hite (hraw u) ?_
    induction u.opening (Header.ofBytes m).key.bucket with
    | some p => exact FrameKind.noConfusion
    | none => exact hafter _
  unfold takeMessage
  induction search .compressor (Header.ofBytes m).key s with | mk u found
  induction found with
  | none => exact hnone u
  | some n =>
    show (sendFrom n m u).2.kind ≠ .feedback
    unfold sendFrom
    dsimp only
    generalize (if (u.txRec n).st = .opened then _ else FrameChoice.full) = choice
    induction choice <;> exact FrameKind.noConfusion

/-- A take whose frame is not sent ends. -/
theorem Running.abandonTake (h : Running .compressor s) (hst : s.ltx.st = .frame) (n : Option Ctx) :
    Matched (answerAbandoned n (Machine.countAborted (endTransaction s))) := by
  have hdone : Matched (endTransaction ((Machine.countAborted s).setComp { s.comp with work := .idle })) :=
    h.done rfl (fun p => by induction p <;> rfl) (.of_idle rfl _)
  rw [endTransaction_eq] at hdone ⊢
  have hanswer := hdone.answer (n := n) rfl hst rfl
  induction n with
  | none => exact hanswer
  | some k => exact hanswer

theorem Running.takeGranted {m : Message} {f : TxFormat} {fate : TakeFate} (h : Running .compressor s)
    (hwork : s.comp.work = .taking m f fate) : Matched (takeGranted m f fate s) := by
  have hst : s.ltx.st = .frame := h.line.frame_of_ne_idle fun hidle => CompWork.noConfusion (hidle.symm.trans hwork)
  have hkind := takeMessage_kind m s
  have hframe := onlyChanges_of_frame [.store, .stats, .stat] (takeMessage_frame m s)
  unfold Machine.takeGranted
  generalize takeMessage m s = r at hframe hkind
  have hrun := h.of_frame hframe rfl
  have hframed : r.1.ltx.st = .frame := (congrArg LineTx.st (hframe.same .ltx rfl : r.1.ltx = s.ltx)).trans hst
  induction fate with
  | send =>
    have hsent : endTake f .send r.2 r.1 = endTransaction ((r.1.setComp { r.1.comp with work := .sending }).setLtx
        { r.1.ltx with inFlight := some ⟨r.2.kind, r.2.n⟩, rest := lineFrame f r.2.data }) := by
      rw [endTransaction_eq]
      exact (congrArg (fun u : State => (u.setComp { u.comp with work := .sending }).setLtx
        { u.ltx with inFlight := some ⟨r.2.kind, r.2.n⟩, rest := lineFrame f r.2.data }) (endTransaction_eq r.1) :)
    rw [hsent]
    exact hrun.done rfl (fun p => by induction p <;> rfl) ⟨fun hn => absurd hframed hn,
      fun x hx hk => absurd ((congrArg InFlight.kind (Option.some.inj hx)).trans hk) hkind⟩
  | _ => exact hrun.abandonTake hframed _

/-! ## The Expander (04 R62 to R82) -/

theorem Matched.handleVerdict (h : Matched s) (hidle : s.exp = .idle) (k : Fin 2) (v : Verdict) : Matched (handleVerdict k v s) := by
  have hkept : ∀ u, OnlyChanges [.lrx, .stats, .stat, .host] s u → Matched u := fun u hu => h.of_frameStore hu rfl
  have hstart : ∀ w u, OnlyChanges [.stats] s u → Matched (startWork k w u) := fun w u hu =>
    (h.of_frameStore hu rfl).request (t := u.setExp (.busy k w)) (congrArg ExpState.asks ((hu.same .exp rfl).trans hidle))
      rfl rfl (fun p => by induction p <;> rfl) (h.of_frameStore hu rfl).line
  have hdrop : Matched (dropFrame k s) := hkept _ (onlyChanges_of_frame _ (dropFrame_frame ..))
  induction v with
  | malformed | codeError => exact hkept _ (onlyChanges_of_eq _ rfl)
  | raw hd p => exact ite_keeps (fun _ => hkept _ (onlyChanges_of_eq _ rfl)) fun _ => hdrop
  | work w =>
    have hplain := hstart w s (.refl _ _)
    have hcounted := hstart w (raise .fbReceived s) (onlyChanges_of_frame _ (raise_frame ..))
    induction w with
    | feedback e es => exact hcounted
    | _ => exact ite_keeps (fun _ => hplain) fun _ => hdrop

theorem Matched.expanderTake (h : Matched s) : Matched (expanderTake s) := by
  unfold Machine.expanderTake
  cases hexp : s.exp with
  | idle =>
    have htaken : ∀ v k x, Matched (Machine.handleVerdict k x (s.setLrx v)) := fun v =>
      Matched.handleVerdict (s := s.setLrx v) ⟨h.arb, h.line⟩ hexp
    induction s.lrx.order with
    | nil => exact h
    | cons k rest _ => exact htaken _ k _
  | _ => exact h

theorem Running.endExpTransaction (h : Running .expander s) (hframe : OnlyChanges [.store, .fbq, .stats, .stat] s t)
    (b : Option (Fin 2)) (e : Option RxEntry) : Matched (endExpTransaction b e t) := by
  have hrun := h.of_frame hframe rfl
  have hidle : ∀ u, u.arb = t.arb → u.asks = (t.setExp .idle).asks → u.comp = t.comp → u.ltx = t.ltx → Matched (endTransaction u) :=
    fun u harb hasks hcomp hltx => hrun.done harb (fun p => by rw [hasks]; induction p <;> rfl) (hcomp ▸ hltx ▸ hrun.line)
  unfold Machine.endExpTransaction
  induction b with
  | none => exact hidle _ rfl rfl rfl rfl
  | some k =>
    induction e with
    | none => exact hidle _ rfl rfl rfl rfl
    | some x => exact hidle _ rfl (asks_eq rfl rfl rfl rfl) rfl rfl

theorem Running.endEntry (h : Running .expander s) (hframe : OnlyChanges [.store, .stats, .stat] s t) {b : Option (Fin 2)}
    {e : FbEntry} {es : List FbEntry} (hwork : s.expTransaction = some (b, .feedback e es)) : Matched (endEntry b es t) := by
  have hrun := h.of_frame hframe rfl
  have hidle : ∀ b, Matched (endTransaction (endWork b t)) := fun b => by
    induction b <;> exact hrun.done rfl (fun p => by induction p <;> rfl) hrun.line
  unfold Machine.endEntry
  obtain ⟨-, hexp⟩ := expTransaction_exp hwork
  induction b with
  | none => exact hidle none
  | some k =>
    induction es with
    | nil => exact hidle (some k)
    | cons x xs _ =>
      have hbusy : t.exp.asks = true := congrArg ExpState.asks ((hframe.same .exp rfl).trans hexp)
      exact hrun.again rfl (asks_eq hbusy.symm rfl rfl rfl) hrun.line

/-! ## Commands (10 R159 to R162) -/

theorem Matched.complete (h : Matched s) (hidle : s.cu.st = .idle) (r : Result) : Matched (complete r s) :=
  h.of_same rfl (asks_eq rfl rfl (congrArg CmdState.busyBit hidle).symm rfl) rfl h.line

/-- An accepted command's operation that completes it. -/
theorem Matched.completed (h : Matched s) (hidle : s.cu.st = .idle) (hframe : OnlyChanges bs s t)
    (hbs : (Block.store :: requestBlocks).all (fun b => !bs.contains b) = true) (r : Result) : Matched (Machine.complete r t) := by
  have hcu : t.cu = s.cu := hframe.same .cu (not_mem_of_all hbs .cu rfl)
  exact (h.of_frameStore hframe hbs).complete (hcu ▸ hidle) r

theorem Matched.onBank (h : Matched s) (hidle : s.cu.st = .idle) {f : BankId → State → State} (hf : ∀ k, Matched (f k s)) :
    Matched (onBank f s) := by
  unfold Machine.onBank
  induction s.cu.argBank with
  | none => exact h.complete hidle _
  | some k => exact hf k

theorem Matched.setPendingBank (h : Matched s) (k : Option BankId) : Matched (s.setComp { s.comp with pendingBank := k }) :=
  ⟨h.arb, h.line⟩

theorem Matched.linkReset (h : Matched s) : Matched (linkReset s) := by
  have hfbq : Matched (linkResetHost (s.setFbq [])) := ⟨h.arb, h.line⟩
  have hreceiver := hfbq.of_frameStore (onlyChanges_of_frame [.lrx, .stat] (linkResetReceiver_frame _)) rfl
  unfold Machine.linkReset
  generalize linkResetReceiver _ = u at hreceiver
  have hexp : (u.exp.linkReset (u.holds .expander)).asks = u.exp.asks := by
    induction u.holds .expander <;> induction u.exp <;> rfl
  have hexpander : Matched (linkResetExpander u) := hreceiver.of_same rfl (asks_eq hexp rfl rfl rfl) rfl hreceiver.line
  generalize linkResetExpander u = v at hexpander
  have halt : ∀ x : State, Matched x → Matched (x.setLtx { x.ltx with alt := false }) := fun x hx =>
    ⟨hx.arb, ⟨hx.line.line, hx.line.feedback⟩⟩
  refine halt _ (Matched.leaveHeld ?_)
  cases hwork : v.comp.work with
  | taking m f fate =>
    have hasks : v.comp.work.asks = true := congrArg CompWork.asks hwork
    exact hexpander.of_same rfl (asks_eq rfl hasks.symm rfl rfl) rfl
      (hexpander.line.of_busy (fun hidle => CompWork.noConfusion (hidle.symm.trans hwork)) _)
  | _ => exact hexpander.abandonFrame

theorem deviceReset_matched (s : State) : Matched (deviceReset s) := by
  have h := Matched.of_obligation invariantsHoldAtReset.2.2.2.2.2.2
  exact ⟨h.arb, h.line⟩

theorem Matched.commandWrite (h : Matched s) (c : Command) : Matched (commandWrite c s) := by
  refine commandWrite_cases c s (fun _ => deviceReset_matched s) (h.of_same rfl rfl rfl h.line) (fun r hidle => h.complete hidle r)
    fun hidle _ => ?_
  have hs : Matched (acceptCommand s) := ⟨h.arb, h.line⟩
  have hdone := hs.complete hidle
  have hasked : ∀ st : CmdState, st.busyBit = true → Matched (Machine.request .command ((acceptCommand s).setCu { (acceptCommand s).cu with st := st })) :=
    fun st hst => hs.request (congrArg CmdState.busyBit hidle) rfl rfl (fun p => by
      induction p with
      | command => exact hst
      | _ => rfl) hs.line
  have hstart : ∀ k, Matched (startTransaction k (acceptCommand s)) := fun k => hasked _ rfl
  have hwalk : ∀ d, Matched (startWalk d (acceptCommand s)) := fun d => hasked _ rfl
  induction c with
  | retireAllRx | retireAllTx => exact hwalk _
  | loadRx | loadTx => exact ite_keeps (fun _ => hstart _) fun _ => hdone _
  | openBank =>
    exact hs.onBank hidle fun k => ite_keeps (fun _ => hdone _) fun _ => hs.completed hidle (onlyChanges_of_eq [.banks] rfl) rfl _
  | closeBank =>
    refine hs.onBank hidle fun k => ?_
    unfold closeBank
    induction ((acceptCommand s).banks.get k).st with
    | loading => exact hs.completed hidle (onlyChanges_of_eq [.banks] rfl) rfl _
    | _ => exact hdone _
  | selectTxBank => exact hs.onBank hidle fun k => ite_keeps (fun _ => (hs.setPendingBank _).complete hidle _) fun _ => hdone _
  | snapshot => exact Matched.complete (s := snapshotNow (acceptCommand s)) ⟨hs.arb, hs.line⟩ hidle _
  | linkReset =>
    exact hs.linkReset.complete ((congrArg CmdUnit.st ((linkReset_onlyChanges _).same .cu rfl)).trans hidle) _
  | deviceReset => exact deviceReset_matched _
  | unknown => exact hdone _
  | _ => exact hstart _

end

end Sys2Proof.Machine

/-! PROOFS. Every row keeps the requests matched. -/

namespace Sys2Proof.Machine

section
variable {s t : State}

/-! ## Periods and visits of the Age Sweep (09) -/

theorem Matched.boundaryPeriod (h : Matched s) : Matched (boundaryPeriod s) :=
  h.of_frame (boundaryPeriod_onlyChanges s) rfl (boundaryPeriod_store s ▸
    ite_keeps (P := fun v : Store => v.st = s.store.st) (fun _ => rfl) fun _ => rfl)

theorem Matched.silencePeriod (h : Matched s) : Matched (silencePeriod s) := h.of_frameStore (silencePeriod_onlyChanges s) rfl

theorem Matched.sweepPeriod (h : Matched s) : Matched (sweepPeriod s) := by
  unfold Machine.sweepPeriod
  cases hidx : s.sweep.idx with
  | none => exact h.request (congrArg Option.isSome hidx) rfl rfl (fun p => by induction p <;> rfl) h.line
  | some i =>
    exact ite_keeps (fun _ => h.of_same rfl (asks_eq rfl rfl rfl rfl) rfl h.line) fun _ => ⟨h.arb, h.line⟩

theorem Matched.reloadTimer (h : Matched s) : Matched (reloadTimer s) := ⟨h.arb, h.line⟩

theorem Matched.advance (h : Matched s) : Matched (advance s) :=
  ite_keeps (fun _ => h.reloadTimer.sweepPeriod.boundaryPeriod.silencePeriod) fun _ => ⟨h.arb, h.line⟩

theorem Matched.singleIncrement (h : Matched s) : Matched (singleIncrement s) := ite_keeps (fun _ => h) fun _ => h.advance

theorem Running.endVisit (h : Running .sweep s) (hframe : OnlyChanges [.store, .fbq, .stats, .stat] s t) {i : BitVec 9}
    (hidx : s.sweep.idx = some i) : Matched (endVisit i t) := by
  have hrun := h.of_frame hframe rfl
  have hsweep : t.sweep.idx.isSome = true := congrArg Option.isSome ((congrArg Sweep.idx (hframe.same .sweep rfl)).trans hidx)
  have hnext : ∀ j p, Matched (endAndRequest .sweep (t.setSweep ⟨some j, p⟩)) := fun j p =>
    hrun.again rfl (asks_eq rfl rfl rfl hsweep.symm) hrun.line
  refine ite_keeps (fun _ => ite_keeps (P := Matched) (fun _ => ?_) fun _ => hnext _ _) fun _ => hnext _ _
  exact hrun.done rfl (fun p => by induction p <;> rfl) hrun.line

/-! ## Transactions of the Command Unit (10 R159 to R162) -/

theorem commandWork_cu (c : StoreCmd) (n : Ctx) (d : Dir) (s : State) : (commandWork c n d s).cu.st = .idle := by
  have hdone : ∀ r u, (Machine.complete r u).cu.st = .idle := fun _ _ => rfl
  have hite : ∀ {p : Prop} [Decidable p] {x y : State}, x.cu.st = .idle → y.cu.st = .idle → (if p then x else y).cu.st = .idle :=
    fun hx hy => ite_keeps (P := fun u : State => u.cu.st = .idle) (fun _ => hx) fun _ => hy
  have hpin : ∀ v, (pinWork v d n s).cu.st = .idle := fun v => by
    induction d with
    | receive => exact hite (hdone _ _) (hdone _ _)
    | transmit => exact hite (hdone _ _) (hdone _ _)
  induction c with
  | readRx | readTx | retireRx | retireTx => exact hdone _ _
  | pin | unpin => exact hpin _
  | clearDegraded => exact hite (hdone _ _) (hite (hdone _ _) (hdone _ _))
  | findTx =>
    show (findTxWork s).cu.st = .idle
    unfold findTxWork
    generalize search .command (windowKey s.cu.window) s = x
    induction x with | mk u found
    induction found <;> exact hdone _ _
  | loadRx =>
    show (loadRxWork n s).cu.st = .idle
    unfold loadRxWork
    generalize windowRx s.cu.window = w
    induction w with
    | none => exact hdone _ _
    | some x =>
      induction x with | mk st c
      induction st <;> exact hdone _ _
  | loadTx =>
    show (loadTxWork n s).cu.st = .idle
    unfold loadTxWork
    generalize windowTx s.cu.window = w
    induction w with
    | none => exact hdone _ _
    | some x =>
      refine hite (hdone _ _) ?_
      generalize search .command x.2.key s = y
      induction y with | mk u found
      induction found with
      | some _ => exact hdone _ _
      | none =>
        dsimp only
        induction u.emptySlot x.2.key.bucket <;> exact hdone _ _

theorem Running.commandTransaction (h : Running .command s) (c : StoreCmd) (n : Ctx) (d : Dir) :
    Matched (endTransaction (commandWork c n d s)) := by
  have hframe := onlyChanges_of_frame [.store, .fbq, .stats, .cu, .stat] (commandWork_frame c n d s)
  have hcu := congrArg CmdState.busyBit (commandWork_cu c n d s)
  generalize commandWork c n d s = t at hframe hcu
  have hcomp : t.comp = s.comp := hframe.same .comp rfl
  have hltx : t.ltx = s.ltx := hframe.same .ltx rfl
  refine h.done (hframe.same .arb rfl) (fun p => ?_) (hcomp ▸ hltx ▸ h.line)
  induction p with
  | expander => exact congrArg ExpState.asks (hframe.same .exp rfl)
  | compressor => exact congrArg (fun c : Compressor => c.work.asks) hcomp
  | command => exact hcu
  | sweep => exact congrArg (fun x : Sweep => x.idx.isSome) (hframe.same .sweep rfl)

theorem Running.endWalkStep (h : Running .command s) (hframe : OnlyChanges [.store, .fbq, .stat] s t) {d : Dir} {i : Byte}
    (hwalk : s.cu.st = .walk d i) : Matched (endWalkStep d i t) := by
  have hrun := h.of_frame hframe rfl
  have hbusy : t.cu.st.busyBit = true :=
    congrArg CmdState.busyBit ((congrArg CmdUnit.st (hframe.same .cu rfl)).trans hwalk)
  exact ite_keeps (fun _ => hrun.done rfl (fun p => by induction p <;> rfl) hrun.line)
    fun _ => hrun.again rfl (asks_eq rfl rfl hbusy.symm rfl) hrun.line

/-! ## Writes of registers (10 R153) -/

theorem Matched.writeSettings (h : Matched s) (a : Nat) (w : Word) : Matched (writeSettings a w s) := by
  have hcfg : ∀ v, Matched (s.setCfg v) := fun _ => ⟨h.arb, h.line⟩
  exact ite_keeps (fun _ => hcfg _) fun _ => (hcfg _).leaveHeld

theorem Matched.writeControl (h : Matched s) (w : Word) : Matched (writeControl w s) := by
  have henable := (h.of_frameStore (onlyChanges_of_frame [.lrx] (writeReceiveEnable_frame (w.getLsbD 0) s)) rfl).writeTransmitEnable
    (w.getLsbD 1)
  unfold Machine.writeControl
  generalize Machine.writeTransmitEnable _ _ = u at henable
  have hdiscarded : Matched (if w.getLsbD 8 then discardEntry u else u) :=
    ite_keeps (fun _ => henable.of_frameStore (onlyChanges_of_frame [.host] (discardEntry_frame u)) rfl) fun _ => henable
  exact ite_keeps (fun _ => hdiscarded.of_frameStore (onlyChanges_of_frame [.host] (clearBuild_frame _)) rfl) fun _ => hdiscarded

theorem Matched.writeTimerControl (h : Matched s) (w : Word) : Matched (writeTimerControl w s) := by
  have hrun : Matched (writeRun (w.getLsbD 0) s) := ⟨h.arb, h.line⟩
  have hreload : Matched (if w.getLsbD 1 then Machine.reloadTimer (writeRun (w.getLsbD 0) s) else writeRun (w.getLsbD 0) s) :=
    ite_keeps (fun _ => hrun.reloadTimer) fun _ => hrun
  exact ite_keeps (P := Matched) (fun _ => hreload.singleIncrement) fun _ => hreload

theorem Matched.writeRegister (h : Matched s) (a : BitVec 6) (w : Word) : Matched (writeRegister a w s) := by
  refine writeRegister_cases a w s (fun t hframe hcu => ?_) (h.writeControl w)
    (h.of_frameStore (onlyChanges_of_frame [.host] (writeWord_frame w s)) rfl)
    (fun n => h.of_frameStore (onlyChanges_of_frame [.host, .stat] (commitMessage_frame n s)) rfl) h.commandWrite
    (h.of_frameStore (onlyChanges_of_frame [.banks] (selectTable_frame w s)) rfl)
    (h.of_frameStore (onlyChanges_of_frame [.banks, .stat] (writeTable_frame w s)) rfl) ⟨h.arb, h.line⟩
    (h.writeTimerControl w) fun k => h.writeSettings k w
  have hcomp : t.comp = s.comp := hframe.same .comp rfl
  have hltx : t.ltx = s.ltx := hframe.same .ltx rfl
  exact h.of_same (hframe.same .arb rfl) (asks_eq (congrArg ExpState.asks (hframe.same .exp rfl)) (congrArg (fun c : Compressor => c.work.asks) hcomp)
    (congrArg CmdState.busyBit hcu) (congrArg (fun x : Sweep => x.idx.isSome) (hframe.same .sweep rfl)))
    (congrArg Store.st (hframe.same .store rfl)) (hcomp ▸ hltx ▸ h.line)

/-- The end of the start-up walk lets the arbiter act. -/
theorem startupWalkEnd_matched (h : Matched s) (hst : s.store.st = .starting) :
    Matched (arbitrate (startTransmitter (startReceiver (s.setStore { s.store with st := .ready })))) := by
  have hfree : s.arb.granted = none := Option.eq_none_iff_forall_ne_some.mpr fun q hg => h.arb.held q hg hst
  have hasks : ∀ q, s.arb.waits q = s.asks q := fun q => by
    rw [← h.arb.asks q, hfree]
    exact (Bool.or_false _).symm
  have hrx := onlyChanges_of_frame [.lrx] (startReceiver_frame (s.setStore { s.store with st := .ready }))
  generalize hu : startReceiver _ = u at hrx
  have htx := onlyChanges_of_frame [.ltx] (startTransmitter_frame u)
  have hboth := hrx.trans htx
  have hline : LineMatched (startTransmitter u).comp.work (startTransmitter u).ltx := by
    have hcomp : u.comp = s.comp := hrx.same .comp rfl
    have hltx : u.ltx = s.ltx := hrx.same .ltx rfl
    have hu : LineMatched u.comp.work u.ltx := hcomp ▸ hltx ▸ h.line
    exact ite_keeps (P := fun v : State => LineMatched v.comp.work v.ltx)
      (fun hd => .of_idle (hu.line (by rw [hd.2.1]; decide)) _) fun _ => hu
  have hrequests : (startTransmitter u).asks = s.asks := (hboth.asks rfl).trans rfl
  have harb : (startTransmitter u).arb = s.arb := hboth.same .arb rfl
  generalize startTransmitter u = v at hline hrequests harb
  have heq : arbitrate v = v.setArb (if v.store.st = .starting then v.arb else v.arb.grant v.store.heldUncorrected) :=
    (apply_ite (fun a => v.setArb a) _ _ _).symm
  rw [heq]
  refine ⟨?_, hline⟩
  exact .of_free (harb ▸ hfree) (fun p => by rw [harb, hasks]; exact (congrFun hrequests p).symm) v.store

end

/-- The rows outside the requests' blocks by their frame, the others by their operations. -/
theorem exec_matched {s : State} (h : Matched s) (c : Instr) : Answers Matched c s := by
  have hother : ∀ c, (Block.store :: requestBlocks).all (fun b => !(changedBlocks c).contains b) = true → Answers Matched c s :=
    fun c hc => by
      obtain ⟨t, hexec, hframe⟩ := (exec_answers c s).exists_next
      exact .intro hexec (h.of_frameStore hframe hc)
  have hsame : ∀ v : Store, v.st = s.store.st → Matched (s.setStore v) := fun v hv => h.of_same rfl rfl hv h.line
  induction c with
  | expanderFrameTake => exact h.expanderTake
  | expandFull =>
    exact .expandFull (R := (s.expTransaction = ·)) rfl h fun b n hd stride p hwork =>
      (h.running (expTransaction_exp hwork).1).endExpTransaction (onlyChanges_of_frame _ (fullTransaction_frame ..)) b _
  | expandDelta =>
    exact .expandDelta (R := (s.expTransaction = ·)) rfl h fun b n d r stride check p hwork =>
      (h.running (expTransaction_exp hwork).1).endExpTransaction (onlyChanges_of_frame _ (deltaTransaction_frame ..)) b _
  | expandBrief =>
    exact .expandBrief (R := (s.expTransaction = ·)) rfl h fun b n check p hwork =>
      (h.running (expTransaction_exp hwork).1).endExpTransaction (onlyChanges_of_frame _ (briefTransaction_frame ..)) b _
  | rxEntryWrite =>
    exact .rxEntryWrite (R := (s.exp = ·)) rfl h fun b e hexp =>
      h.of_same rfl (asks_eq (congrArg ExpState.asks hexp).symm rfl rfl rfl) rfl h.line
  | expanderAbandonedGrant =>
    refine ite_keeps (fun hheld => ?_) fun _ => h
    exact (h.running hheld.1).done rfl (fun p => by induction p <;> rfl) h.line
  | ackApply =>
    exact .ackApply (R := (s.expTransaction = ·)) rfl h fun b n es hwork =>
      (h.running (expTransaction_exp hwork).1).endEntry (onlyChanges_of_frame _ (ackEntry_frame n s)) hwork
  | refreshApply =>
    exact .refreshApply (R := (s.expTransaction = ·)) rfl h fun b n es hwork =>
      (h.running (expTransaction_exp hwork).1).endEntry (onlyChanges_of_frame _ (refreshEntry_frame n s)) hwork
  | nextFrameChoice => exact ite_keeps (fun hidle => h.startFrame hidle.1) fun _ => h
  | take => exact .take (R := (s.comp.work = ·)) rfl h fun m f fate hwork hheld => (h.running hheld).takeGranted hwork
  | takeAbandonedGrant =>
    refine .takeAbandonedGrant (R := (s.comp.work = ·)) rfl h fun m f hwork hheld => (h.running hheld).abandonTake ?_ none
    exact h.line.frame_of_ne_idle fun hidle => CompWork.noConfusion (hidle.symm.trans hwork)
  | feedbackFrameSent =>
    exact .feedbackFrameSent (R := (s.ltx.inFlight = ·)) rfl h h.byteSlot fun hfl => h.lastByteSent (h.line.feedback _ hfl rfl) _
  | messageFrameSent =>
    refine .messageFrameSent (R := (s.comp.work = ·)) rfl h h.byteSlot fun k hwork => ?_
    have hidle : Matched (s.setComp { s.comp with work := .idle }) :=
      h.of_same rfl (asks_eq rfl (congrArg CompWork.asks hwork).symm rfl rfl) rfl (.of_idle rfl _)
    exact hidle.lastByteSent rfl k
  | ctsNegated =>
    have hpin : Matched (setCts false s) := ⟨h.arb, h.line⟩
    exact ite_keeps (fun _ => hpin.abandonFrame) fun _ => hpin
  | ctsAsserted => exact Matched.leaveHeld (s := setCts true s) ⟨h.arb, h.line⟩
  | abortRequest =>
    refine .abortRequest (R := fun _ => True) trivial h fun n _ hheld => ?_
    have hframe := (onlyChanges_of_frame [.store, .stats, .stat] (readTx_frame .compressor n s)).andThen (ds := [.store, .stats, .stat])
      (onlyChanges_of_frame [.store, .stat] (makeRefreshing_frame n _)) rfl
    have hrun := (h.running hheld).of_frame hframe rfl
    unfold abortGranted
    generalize makeRefreshing n _ = u at hrun
    exact hrun.done rfl (fun p => by induction p <;> rfl) (.of_idle rfl _)
  | timerOverflow | lineSilent | trefTick => exact ite_keeps (fun _ => h.advance) fun _ => h
  | statisticsBoundary => exact ite_keeps (fun _ => h.reloadTimer.boundaryPeriod.sweepPeriod.silencePeriod) fun _ => h
  | sweepVisit =>
    exact .sweepVisit (R := (s.sweep.idx = ·)) rfl h fun i hidx hheld =>
      (h.running hheld).endVisit (onlyChanges_of_frame _ (visit_frame i s)) hidx
  | storageError dir n bits => induction dir <;> exact hsame _ rfl
  | startupWalkEnd => exact ite_keeps (fun hst => startupWalkEnd_matched h hst) fun _ => h
  | walkStep =>
    exact .walkStep (R := (s.cu.st = ·)) rfl h fun d i hwalk hheld =>
      (h.running hheld).endWalkStep (onlyChanges_of_frame _ (retire_frame d i s)) hwalk
  | commandTransaction =>
    exact .commandTransaction (R := fun _ => True) trivial h fun c n d _ hheld =>
      (h.running hheld).commandTransaction c n d
  | idleFillByte => exact h.byteSlot
  | recordWindowWrite i w =>
    exact hostAccess_keeps h (ite_keeps (P := Matched) (fun _ => h.of_same rfl rfl rfl h.line) fun _ => h.of_same rfl rfl rfl h.line)
  | transmitEnable on => exact hostAccess_keeps h (h.writeTransmitEnable on)
  | errorCaptureWrite w => exact hostAccess_keeps h (hsame _ rfl)
  | singleIncrement => exact hostAccess_keeps h h.singleIncrement
  | configurationWrite a w => exact hostAccess_keeps h (h.writeRegister a w)
  | resetRelease => exact deviceReset_matched _
  | readRx | readTx | loadRx | loadTx | retireRx | retireTx | pin | unpin | retireAllRx | retireAllTx | findTx | openBank
  | closeBank | selectTxBank | clearDegraded | snapshot | linkReset | deviceReset | unknownCommand =>
    exact hostAccess_keeps h (h.commandWrite _)
  | _ => exact hother _ rfl

/-- Settles O10: a request goes with its work, and a grant ends with it. -/
theorem stepKeepsRequestsMatched : Obligations.StepKeepsRequestsMatched := fun _ _ h hstep =>
  (step_keeps (P := Matched) (fun _ _ h => ⟨h.arb, h.line⟩) (fun c _ _ h hexec => (exec_matched h c).of_next hexec)
    (.of_obligation h) hstep).to_obligation

end Sys2Proof.Machine

/-! PROOFS. The Expander's transactions: FULL frames and received feedback. -/

namespace Sys2Proof.Machine

/-! ## Granted transactions (04 R62, R64, R79) -/

section
variable {s u : State} {k : Fin 2} {w : ExpWork}

theorem expTransaction_of_busy (hholds : s.holds .expander = true) (hexp : s.exp = .busy k w) :
    s.expTransaction = some (some k, w) := by
  refine (if_pos hholds).trans ?_
  rw [hexp]

/-- The end of a transaction that delivers an entry. -/
theorem endExpTransaction_deliver (k : Fin 2) (e : RxEntry) (u : State) :
    endExpTransaction (some k) (some e) u = (u.setExp (.deliver k e)).setArb (u.arb.ended u.store) := endTransaction_eq _

/-- The end of a transaction that discards its frame. -/
theorem endExpTransaction_discard (k : Fin 2) (u : State) :
    endExpTransaction (some k) none u = (releaseBuf k (u.setExp .idle)).setArb (u.arb.ended u.store) := endTransaction_eq _

theorem exec_expandFull {b : Option (Fin 2)} {n : Ctx} {h : Header} {stride : Half} {p : List Byte}
    (hwork : s.expTransaction = some (b, .full n h stride p)) : exec .expandFull s =
      .next (endExpTransaction b (some (fullTransaction n h stride p s).2) (fullTransaction n h stride p s).1) := by
  refine congrArg Host.Outcome.next ?_
  rw [hwork]

end

/-! ## FULL frames (04 R67 to R69) -/

/-- What an offered ACK changes. -/
theorem offerAck_spec (n : Ctx) (s : State) : OnlyChanges [.fbq, .stats, .stat] s (offerAck n s) ∧
    (s.cfg.ackEnable = false → offerAck n s = s) ∧ (s.cfg.ackEnable = true → offerAck n s = offer ⟨.ack, n⟩ s) :=
  ⟨onlyChanges_of_frame _ (offerAck_frame n s), fun h => if_neg (ne_true_of_eq_false h), fun h => if_pos h⟩

/-- The state in which a FULL frame is stored after the checked read that left `v`, its ACK not yet offered. -/
def storedFull (n : Ctx) (c : Contents) (v : State) : State :=
  if (v.rxRec n).st = .free then raise .ctxCreatedRx (writeRx n .live c (raise .expFull v))
  else writeRx n .live c (raise .expFull v)

theorem storedFull_eq (n : Ctx) (c : Contents) (v : State) : storedFull n c v =
    ((v.setStore (v.store.withRx n .live c)).setStat (v.stat.seesRx n .live c)).setStats
      (v.stats.counted (.expFull :: if (v.rxRec n).st = .free then [.ctxCreatedRx] else [])) := by
  unfold storedFull
  rw [writeRx_eq]
  by_cases hfree : (v.rxRec n).st = .free
  · rw [if_pos hfree, if_pos hfree]
    rfl
  · rw [if_neg hfree, if_neg hfree]
    rfl

section
variable {s u : State} {n : Ctx} {h : Header} {stride : Half} {p : List Byte} {e : RxEntry}

theorem exists_fullTransaction {k : Fin 2} (hholds : s.holds .expander = true) (hexp : s.exp = .busy k (.full n h stride p))
    {Q : State → Prop} (hQ : ∀ u e, fullTransaction n h stride p s = (u, e) →
      Q ((u.setExp (.deliver k e)).setArb (u.arb.ended u.store))) : ∃ t, exec .expandFull s = .next t ∧ Q t :=
  exists_next (exec_expandFull (expTransaction_of_busy hholds hexp)) (endExpTransaction_deliver ..) (hQ _ _ rfl)

theorem fullTransaction_within (hx : fullTransaction n h stride p s = (u, e)) : OnlyChanges [.store, .fbq, .stats, .stat] s u := by
  have hframe := onlyChanges_of_frame [.store, .fbq, .stats, .stat] (fullTransaction_frame n h stride p s)
  rwa [hx] at hframe

theorem fullTransaction_unstored (hx : fullTransaction n h stride p s = (u, e))
    (hnot : ((readRx .expander n s).rxRec n).st = .free ∧ (readRx .expander n s).store.st = .degraded) :
    u = raise .expFull (readRx .expander n s) ∧ e = { plainEntry .full n h p with notStored := true } :=
  Prod.mk.inj (hx.symm.trans ((fullTransaction_eq n h stride p s).trans (if_pos hnot)))

theorem fullTransaction_stored (hx : fullTransaction n h stride p s = (u, e))
    (hstored : ¬ (((readRx .expander n s).rxRec n).st = .free ∧ (readRx .expander n s).store.st = .degraded)) :
    u = offerAck n (storedFull n (storedOver ((readRx .expander n s).rxRec n) h stride) (readRx .expander n s)) ∧
      e = storedEntry ((readRx .expander n s).rxRec n) n h p :=
  Prod.mk.inj (hx.symm.trans ((fullTransaction_eq n h stride p s).trans (if_neg hstored)))

theorem offerAck_storedFull_ended (n : Ctx) (c : Contents) (v : State) :
    (offerAck n (storedFull n c v)).arb.ended (offerAck n (storedFull n c v)).store = v.arb.ended v.store := by
  have hoffer := (offerAck_spec n (storedFull n c v)).1
  refine (congrArg₂ Arbiter.ended (hoffer.same .store rfl) (hoffer.same .arb rfl)).trans ?_
  rw [storedFull_eq]
  rfl

theorem fullTransaction_ended (hx : fullTransaction n h stride p s = (u, e)) :
    u.arb.ended u.store = (readRx .expander n s).arb.ended (readRx .expander n s).store := by
  by_cases hnot : ((readRx .expander n s).rxRec n).st = .free ∧ (readRx .expander n s).store.st = .degraded
  · rw [(fullTransaction_unstored hx hnot).1]
    rfl
  · rw [(fullTransaction_stored hx hnot).1, offerAck_storedFull_ended]

/-- The blocks of the state `u` after an ACK offered with the blocks `t`, `x` and the counts `ks`. -/
theorem offerAck_blocks {v : State} {t : Store} {x : StatusUnit} {y : Stats} {ks : List Counter}
    (hu : u = offerAck n (((v.setStore t).setStat x).setStats (y.counted ks))) : u.store = t ∧
    (v.cfg.ackEnable = false → u.fbq = v.fbq ∧ u.stat = x ∧ u.stats = y.counted ks) ∧
    (v.cfg.ackEnable = true → u.fbq = (offerTo v.fbq ⟨.ack, n⟩).1 ∧
      u.stat = x.latched (overflowEvent v.fbq ⟨.ack, n⟩) ∧
      u.stats = y.counted (ks ++ overflowCount v.fbq ⟨.ack, n⟩)) := by
  obtain ⟨hoffer, hoff, hon⟩ := offerAck_spec n (((v.setStore t).setStat x).setStats (y.counted ks))
  rw [← hu] at hoffer hoff hon
  refine ⟨hoffer.same .store rfl, fun h => ?_, fun h => ?_⟩
  · rw [hoff h]
    exact ⟨rfl, rfl, rfl⟩
  · rw [hon h, ← Stats.counted_counted]
    exact ⟨offer_fbq .., offer_stat .., offer_stats ..⟩

theorem offerAck_storedFull_blocks {v : State} {c : Contents} (hread : OnlyChanges [.store, .stats, .stat] s v)
    (hu : u = offerAck n (storedFull n c v)) : u.store = v.store.withRx n .live c ∧
    (s.cfg.ackEnable = false → u.fbq = s.fbq ∧ u.stat = v.stat.seesRx n .live c ∧
      u.stats = v.stats.counted (.expFull :: if (v.rxRec n).st = .free then [.ctxCreatedRx] else [])) ∧
    (s.cfg.ackEnable = true → u.fbq = (offerTo s.fbq ⟨.ack, n⟩).1 ∧
      u.stat = (v.stat.seesRx n .live c).latched (overflowEvent s.fbq ⟨.ack, n⟩) ∧
      u.stats = v.stats.counted
        ((.expFull :: if (v.rxRec n).st = .free then [.ctxCreatedRx] else []) ++ overflowCount s.fbq ⟨.ack, n⟩)) := by
  rw [← show v.cfg = s.cfg from hread.same .cfg rfl, ← show v.fbq = s.fbq from hread.same .fbq rfl]
  exact offerAck_blocks (hu.trans (congrArg (offerAck n) (storedFull_eq n c v)))

end

/-- Settles O20: the record decides whether the frame is stored, ACK ENABLE whether it is acknowledged. -/
theorem fullFrameDecision : Obligations.FullFrameDecision := by
  intro s k n h stride p hholds hexp s1 r same c
  refine exists_fullTransaction hholds hexp fun u e hx => ⟨fullTransaction_ended hx,
    (fullTransaction_within hx).andThen (onlyChanges_of_eq [.exp, .arb] rfl) rfl, fun hfree hdeg => ?_, fun hnot => ?_⟩
  · obtain ⟨hu, he⟩ := fullTransaction_unstored hx ⟨hfree, hdeg⟩
    exact ⟨congrArg (ExpState.deliver k) he, (congrArg State.store hu :),
      (congrArg State.fbq hu).trans ((readRx_onlyChanges _ _ _).same .fbq rfl), (congrArg State.stat hu :),
      (congrArg State.stats hu :)⟩
  · obtain ⟨hu, he⟩ := fullTransaction_stored hx (not_and_or.mpr hnot)
    exact ⟨congrArg (ExpState.deliver k) he, (offerAck_storedFull_blocks (readRx_onlyChanges _ _ _) hu :)⟩

end Sys2Proof.Machine

/-! PROOFS. The Host Port: words put together from fields, the message FIFOs, the resets. -/

namespace Sys2Proof.Machine

/-! ## Words put together from fields (10 R153) -/

section
variable {n w lo : Nat} {r v : Word} {b : Bool}

theorem place_append (lo : Nat) (x : BitVec n) (y : BitVec w) : place lo (x ++ y) = place lo y ||| place (lo + w) x := by
  apply BitVec.eq_of_getLsbD_eq
  intro i hi
  simp only [place, BitVec.getLsbD_or, BitVec.getLsbD_shiftLeft, BitVec.getLsbD_setWidth, BitVec.getLsbD_append]
  by_cases hlo : i < lo
  · simp [hlo, Nat.lt_add_right]
  · have hsub := Nat.sub_lt_iff_lt_add (c := w) (Nat.le_of_not_lt hlo)
    have hin : i - lo < 32 := (Nat.sub_le i lo).trans_lt hi
    by_cases hlow : i - lo < w
    · simp [hlo, hlow, hi, hin, Nat.add_comm lo w ▸ hsub.mp hlow]
    · have hy : y.getLsbD (i - lo) = false := BitVec.getLsbD_of_ge y _ (Nat.le_of_not_lt hlow)
      have hin' : i - (lo + w) < 32 := (Nat.sub_le i _).trans_lt hi
      simp [hlo, hlow, hi, hy, hin, hin', Nat.add_comm lo w ▸ hsub.not.mp hlow, Nat.sub_sub]

theorem place_zero (lo k : Nat) : place lo 0#k = 0#32 := by simp [place]

theorem eq_of_place {x : Word} (h : place 0 x = r) : r = x := by
  simpa [place] using h.symm

/-- The lowest field of a word is read. -/
theorem place_first {x : BitVec n} {y : BitVec w} (h : place 0 y ||| place w x = r) : place 0 (x ++ y) = r := by
  rw [place_append, Nat.zero_add]
  exact h

/-- The lowest field of what is left of a word is read. -/
theorem place_field {x : BitVec n} {y : BitVec w} (h : v ||| place lo y ||| place (lo + w) x = r) :
    v ||| place lo (x ++ y) = r := by
  rw [place_append, ← BitVec.or_assoc]
  exact h

/-- A gap of zero bits is passed over. -/
theorem place_gap {x : BitVec n} {k : Nat} (h : v ||| place (lo + k) x = r) : v ||| place lo (x ++ 0#k) = r := by
  rw [place_append, place_zero, BitVec.zero_or]
  exact h

/-- The topmost gap of zero bits ends a word. -/
theorem place_top {k : Nat} (h : v = r) : v ||| place lo 0#k = r := by
  rw [place_zero, BitVec.or_zero]
  exact h

theorem placeBit_eq (lo : Nat) (b : Bool) : placeBit lo b = place lo (if b then 1 else 0 : BitVec 1) := by
  cases b <;> rfl

/-- The lowest flag of what is left of a word is read. -/
theorem place_flag {x : BitVec n} (h : v ||| placeBit lo b ||| place (lo + 1) x = r) :
    v ||| place lo (x ++ (if b then 1 else 0 : BitVec 1)) = r := place_field (placeBit_eq lo b ▸ h)

end

/-! ## The receive message FIFO (01 R14, 10 R155, R156) -/

theorem wordsFor_add_four (n : Nat) : wordsFor (n + 4) = wordsFor n + 1 :=
  (congrArg (· / 4) (Nat.add_right_comm n 4 3)).trans (Nat.add_div_right _ (by decide))

theorem length_packWords (bs : List Byte) : (packWords bs).length = wordsFor bs.length := by
  induction bs using packWords.induct with
  | case5 a b c d rest ih => exact (congrArg (· + 1) ih).trans (wordsFor_add_four _).symm
  | _ => simp [packWords, wordsFor]

theorem RxEntry.size_eq (e : RxEntry) : e.size = 4 * e.words.length := by
  have hlen : (packWords (e.header.bytes ++ e.payload)).length = wordsFor (14 + e.payload.length) :=
    (length_packWords _).trans (congrArg wordsFor List.length_append)
  refine congrArg (4 * ·) (Eq.trans ?_ (congrArg (· + 1) hlen.symm))
  exact (congrArg wordsFor (Nat.add_right_comm 14 4 _)).trans (wordsFor_add_four _)

section
variable {s : State} {e : RxEntry} {es : List RxEntry}

theorem readEntryWord_of_nil (h : s.host.rx = []) : readEntryWord s = setEvent .rxUnderrun s := by
  rw [readEntryWord, h]

theorem freeEntry_of_cons (h : s.host.rx = e :: es) : freeEntry s = s.setHost { s.host with rx := es, readPos := 0 } :=
  congrArg (fun l : List RxEntry => s.setHost { s.host with rx := l.tail, readPos := 0 }) h

/-- A read moves the read position, or frees the entry whose last word it was. -/
theorem readEntryWord_of_cons (h : s.host.rx = e :: es) : readEntryWord s = s.setHost
    (if 4 * (s.host.readPos + 1) < e.size then { s.host with readPos := s.host.readPos + 1 }
    else { s.host with rx := es, readPos := 0 }) := by
  have htest : 4 * (s.host.readPos + 1) < e.size ↔ ¬ e.words.length ≤ s.host.readPos + 1 :=
    e.size_eq ▸ (Nat.mul_lt_mul_left (by decide)).trans Nat.not_le.symm
  rw [apply_ite (s.setHost ·), if_congr htest rfl rfl, ite_not, ← freeEntry_of_cons h, readEntryWord, h]

theorem nextRxWord_of_cons (h : s.host.rx = e :: es) : s.nextRxWord = e.words.getD s.host.readPos 0 := by
  rw [State.nextRxWord, h]

theorem nextRxWord_of_nil (h : s.host.rx = []) : s.nextRxWord = 0 := by
  rw [State.nextRxWord, h]

theorem discardEntry_of_cons (h : s.host.rx = e :: es) :
    discardEntry s = s.setHost { s.host with rx := es, readPos := 0 } := by
  rw [discardEntry, h]
  exact freeEntry_of_cons h

theorem discardEntry_of_nil (h : s.host.rx = []) : discardEntry s = s := by
  rw [discardEntry, h]

end

/-- Settles O55: a read gives the word at the read position and frees the entry with its last word. -/
theorem receiveFifoPorts : Obligations.ReceiveFifoPorts := by
  refine ⟨fun e => ?status, fun s hopen => ⟨fun hnil => ⟨?underrun, ?none⟩, fun e es hrx => ⟨?discard, ?read⟩⟩⟩
  case status =>
    exact eq_of_place (place_first (place_field (place_gap (place_flag (place_flag (place_flag (place_flag (place_flag
      (place_gap (place_field rfl))))))))))
  case none => exact exec_next_of_eq rfl (hostAccess_of_eq (discardEntry_of_nil hnil))
  case discard =>
    exact exists_next rfl ((hostAccess_of_hostOpen hopen _).trans (discardEntry_of_cons hrx)) (by intro t; exact ⟨rfl, onlyChanges_of_eq _ rfl⟩)
  all_goals
    have hread := hostRead_of_hostOpen hopen State.nextRxWord readEntryWord
  case underrun =>
    rw [nextRxWord_of_nil hnil] at hread
    exact exists_next rfl (hread.trans (readEntryWord_of_nil hnil)) (by intro t; exact ⟨rfl, rfl, onlyChanges_of_eq _ rfl⟩)
  case read =>
    rw [nextRxWord_of_cons hrx] at hread
    refine exists_next rfl (hread.trans (readEntryWord_of_cons hrx)) ⟨onlyChanges_of_eq _ rfl, fun hpos => ?_, fun j w hpos hw => ?_, fun h => if_pos h,
      fun h => if_neg (Nat.not_lt.mpr h)⟩
    · exact congrArg (fun i => { s.pins with dataOut := e.words.getD i 0 }) hpos
    · refine congrArg (fun x => { s.pins with dataOut := x }) ((congrArg (e.words.getD · 0) hpos).trans ?_)
      exact (congrArg (Option.getD · 0) hw)

/-! ## The transmit message FIFO (10 R157, R158) -/

theorem HostFifos.wordFits_iff (h : HostFifos) :
    h.wordFits = true ↔ h.overrun = false ∧ h.build.length < 60 ∧ h.txBytes + 4 ≤ 4096 := by
  rw [HostFifos.wordFits, Bool.and_eq_true, Bool.and_eq_true, Bool.not_eq_true', decide_eq_true_iff, decide_eq_true_iff,
    and_assoc]
  rfl

theorem length_unpackWords (ws : List Word) : (unpackWords ws).length = 4 * ws.length := by
  induction ws with
  | nil => rfl
  | cons w ws ih => exact List.length_append.trans ((congrArg (4 + ·) ih).trans (Nat.add_comm 4 _))

/-- A construction of the words of a message has the message's byte 13. -/
theorem getElem?_unpackWords {ws : List Word} {n : Nat} (hlow : 14 ≤ n) (h : ws.length = (n + 3) / 4) :
    (unpackWords ws)[13]? = some ((unpackWords ws).getD 13 0) := by
  have hlen : 13 < (unpackWords ws).length := by
    rw [length_unpackWords, h]
    exact Nat.lt_of_lt_of_le (by decide : 13 < 4 * ((14 + 3) / 4))
      (Nat.mul_le_mul_left 4 (Nat.div_le_div_right (Nat.add_le_add_right hlow 3)))
  rw [List.getD_eq_getElem _ _ hlen, List.getElem?_eq_getElem hlen]

/-- A commit that is refused empties the construction and reports why. -/
theorem commitMessage_of_reason {n : Nat} {s : State} {r : BitVec 3} (h : s.host.commitReason n = r) (hr : r ≠ 0) :
    commitMessage n s = setEvent .txReject (s.setHost { s.host with build := [], overrun := false, reason := r }) :=
  h ▸ if_neg (h ▸ hr)

theorem commitMessage_of_accepted {n : Nat} {s : State} (h : s.host.commitReason n = 0) : commitMessage n s = s.setHost
    { s.host with
      build := [], overrun := false, reason := 0, committed := s.host.committed ++ [(unpackWords s.host.build).take n] } :=
  (if_pos h).trans (h ▸ rfl)

/-- Settles O56: the checks of a commit, in order. -/
theorem transmitFifoPorts : Obligations.TransmitFifoPorts := by
  intro s w hopen n words bytes empty refuses
  have hrefuses : ∀ r : BitVec 3, s.host.commitReason n = r → r ≠ 0 → refuses r := fun r h hr =>
    exists_next rfl ((hostAccess_of_hostOpen hopen _).trans (commitMessage_of_reason h hr)) (by intro t; exact ⟨rfl, rfl, onlyChanges_of_eq _ rfl⟩)
  have hinside (hlow : 14 ≤ n) (hhigh : n ≤ 238) : s.host.commitReason n = _ :=
    if_neg (not_or.mpr ⟨Nat.not_lt.mpr hlow, Nat.not_lt.mpr hhigh⟩)
  have hwhole (hlow : 14 ≤ n) (hhigh : n ≤ 238) (hover : s.host.overrun = false) : s.host.commitReason n = _ :=
    (hinside hlow hhigh).trans (if_neg (ne_true_of_eq_false hover))
  have hright (hlow : 14 ≤ n) (hhigh : n ≤ 238) (hover : s.host.overrun = false) (hlen : s.host.build.length = words) :
      s.host.commitReason n = _ := (hwhole hlow hhigh hover).trans (if_neg (not_not.mpr hlen))
  refine ⟨fun hover hlen hroom => ?fits, fun hnot => ?full, exists_next_of_hostOpen hopen rfl (by intro t; exact ⟨rfl, onlyChanges_of_eq _ rfl⟩),
    fun hlen => hrefuses 1 (if_pos hlen) (by decide),
    fun hlow hhigh hover => hrefuses 5 ((hinside hlow hhigh).trans (if_pos hover)) (by decide),
    fun hlow hhigh hover hlen => hrefuses 2 ((hwhole hlow hhigh hover).trans (if_pos hlen)) (by decide),
    fun hlow hhigh hover hlen hbyte => hrefuses 3 ((hright hlow hhigh hover hlen).trans
      (if_pos (hbyte _ (getElem?_unpackWords hlow hlen)))) (by decide), fun hlow hhigh hover hlen ⟨x, hx, hxn⟩ => ?accepted⟩
  case fits =>
    exact exists_next rfl ((hostAccess_of_hostOpen hopen _).trans (if_pos (s.host.wordFits_iff.mpr ⟨hover, hlen, hroom⟩)))
      (by intro t; exact ⟨rfl, onlyChanges_of_eq _ rfl⟩)
  case full =>
    have hnofit : ¬ s.host.wordFits = true := fun h =>
      have ⟨hover, hlen, hroom⟩ := s.host.wordFits_iff.mp h
      hnot.elim (fun h => Bool.false_ne_true (hover.symm.trans h)) (Or.elim · (Nat.not_le.mpr hlen) (Nat.not_lt.mpr hroom))
    exact exists_next rfl ((hostAccess_of_hostOpen hopen _).trans (if_neg hnofit)) (by intro t; exact ⟨rfl, onlyChanges_of_eq _ rfl⟩)
  case accepted =>
    have hbyte : ((unpackWords s.host.build).getD 13 0).toNat = n - 14 :=
      congrArg (BitVec.toNat <| Option.getD · 0) hx |>.trans hxn
    have hreason := (hright hlow hhigh hover hlen).trans (if_neg (not_not.mpr hbyte))
    refine ⟨fun hmany => hrefuses 4 (hreason.trans (if_pos hmany)) (by decide), fun hfew => ?_⟩
    exact exists_next rfl ((hostAccess_of_hostOpen hopen _).trans
      (commitMessage_of_accepted (hreason.trans (if_neg (Nat.not_le.mpr hfew))))) (by intro t; exact ⟨rfl, onlyChanges_of_eq _ rfl⟩)

/-! ## The resets (10 R153, R167) -/

/-- A host row: it does nothing while RESET is asserted. -/
def IsHostRow (i : Instr) : Prop := ∃ f, ∀ s, exec i s = .next (hostAccess f s)

theorem IsHostRow.exec_of_reset {i : Instr} (h : IsHostRow i) {s : State} (hreset : s.pins.resetPin = true) :
    exec i s = .next s := by
  obtain ⟨f, hexec⟩ := h
  exact exec_next_of_eq (hexec s) (if_pos hreset)

/-- Settles O54: a device reset is the reset state but for the queue and the pins; under RESET every host access is shut off. -/
theorem deviceResetAndResetInput : Obligations.DeviceResetAndResetInput := by
  refine fun s => ⟨fun hopen => exists_next_of_hostOpen hopen rfl (by intro t; exact ⟨rfl, rfl, onlyChanges_of_eq _ rfl⟩),
    ⟨_, rfl, rfl, rfl, onlyChanges_of_eq _ rfl⟩, ⟨_, rfl, rfl, onlyChanges_of_eq _ rfl⟩, fun hreset => ⟨fun i hi => ?plain,
    fun w i hi => ?word, fun a w => exec_next_of_eq rfl (if_pos hreset), fun j w => exec_next_of_eq rfl (if_pos hreset),
    congrArg Host.Outcome.next (if_pos hreset), congrArg Host.Outcome.next (if_pos hreset), fun a => if_pos hreset⟩⟩
  case plain =>
    have hrows : List.Forall IsHostRow [Instr.readRx, .readTx, .loadRx, .loadTx, .retireRx, .retireTx, .pin, .unpin,
        .retireAllRx, .retireAllTx, .findTx, .openBank, .closeBank, .selectTxBank, .clearDegraded, .snapshot, .linkReset (),
        .deviceReset, .discard, .cancel, .timerTransfer, .singleIncrement, .receiveEnable true, .receiveEnable false,
        .transmitEnable true, .transmitEnable false, .timerRun true, .timerRun false] := by
      refine ⟨?_, ?_, ?_, ?_, ?_, ?_, ?_, ?_, ?_, ?_, ?_, ?_, ?_, ?_, ?_, ?_, ?_, ?_, ?_, ?_, ?_, ?_, ?_, ?_, ?_, ?_, ?_, ?_⟩
      all_goals exact ⟨_, fun _ => rfl⟩
    exact (List.forall_iff_forall_mem.mp hrows i hi).exec_of_reset hreset
  case word =>
    have hrows : List.Forall IsHostRow [Instr.unknownCommand w, .transmitData w, .commit w, .tableSelect w, .tableDataWrite w,
        .errorCaptureWrite w, .eventFlagsWrite w, .alarmsWrite w, .monitorSelect w] := by
      refine ⟨?_, ?_, ?_, ?_, ?_, ?_, ?_, ?_, ?_⟩
      all_goals exact ⟨_, fun _ => rfl⟩
    exact (List.forall_iff_forall_mem.mp hrows i hi).exec_of_reset hreset

end Sys2Proof.Machine

/-! PROOFS. Records retired and loaded by commands. -/

namespace Sys2Proof.Machine

/-! ## Records made FREE (03 R37, 06 R110) -/

/-- The queue after the ACK for receive context `n` is removed. -/
theorem freeRxRecord_eq (n : Ctx) (s : State) : freeRxRecord n s =
    ((s.setStore (s.store.withRx n .free .zero)).setStat (s.stat.seesRx n .free .zero)).setFbq
      (s.fbq.filter fun x => !(x.kind = .ack && x.n = n)) :=
  congrArg (removeAck n) (writeRx_eq ..)

/-- In the form of `freeRxRecord_eq`, with the queue as it was. -/
theorem freeTxRecord_eq (n : Ctx) (s : State) : freeTxRecord n s =
    ((s.setStore
      { s.store with
        tx := (freeTxRecord n s).store.tx, index := (freeTxRecord n s).store.index
        refs := (freeTxRecord n s).store.refs, free := (freeTxRecord n s).store.free }).setStat
      (s.stat.seesTx n .free .zero)).setFbq s.fbq := by
  refine eq_setStore_setStat (onlyChanges_of_frame _ (freeTxRecord_frame ..)) (freeTxRecord_store n s) ?_
  obtain ⟨x, r, hdrop⟩ := dropSlot_eq n s
  rw [freeTxRecord, hdrop, writeTx_eq]
  rfl

section
variable {n : Ctx} {s t : State} (h : t.store = (freeTxRecord n s).store)
include h

theorem txRec_of_freed (k : Ctx) : t.txRec k = if k = n then ⟨.free, .zero, []⟩ else s.txRec k :=
  (congrArg (fun v : Store => Table.look v.tx k) h).trans (freeTxRecord_txRec ..)

theorem refOf_of_freed (k : Ctx) : t.refOf k = if k = n then none else s.refOf k :=
  (congrArg (fun v : Store => Table.look v.refs k) h).trans (freeTxRecord_refOf ..)

theorem isFree_of_freed (k : Ctx) : t.isFree k = if k = n then true else s.isFree k :=
  (congrArg (fun v : Store => Table.look v.free k) h).trans (freeTxRecord_isFree ..)

theorem slotAt_of_freed (b : BitVec 6) (i : Fin 4) : t.slotAt b i = if s.refOf n = some ⟨b, i⟩ then none else s.slotAt b i :=
  (congrArg (fun v : Store => (v.index[b.toNat]'b.isLt)[i]) h).trans (freeTxRecord_slotAt ..)

/-- What a retired transmit record leaves of records, references, free flags and slots, before a last fact. -/
theorem freeTxRecord_leaves {Q : Prop} (hQ : Q) : t.txRec n = ⟨.free, .zero, []⟩ ∧ (∀ k, k ≠ n → t.txRec k = s.txRec k) ∧
      t.refOf n = none ∧ t.isFree n = true ∧ (∀ k, k ≠ n → t.refOf k = s.refOf k ∧ t.isFree k = s.isFree k) ∧
      (∀ b i, t.slotAt b i = if s.refOf n = some ⟨b, i⟩ then none else s.slotAt b i) ∧
      t.store = { s.store with tx := t.store.tx, index := t.store.index, refs := t.store.refs, free := t.store.free } ∧ Q :=
  ⟨(txRec_of_freed h n).trans (if_pos rfl), fun k hk => (txRec_of_freed h k).trans (if_neg hk), (refOf_of_freed h n).trans (if_pos rfl),
    (isFree_of_freed h n).trans (if_pos rfl),
    fun k hk => ⟨(refOf_of_freed h k).trans (if_neg hk), (isFree_of_freed h k).trans (if_neg hk)⟩, slotAt_of_freed h,
    h.symm ▸ freeTxRecord_store n s, hQ⟩

end

theorem endAndRequest_eq (q : Requester) (s : State) :
    endAndRequest q s = s.setArb ((s.arb.setWait true q).ended s.store) := endTransaction_eq _

/-! ## The RETIRE_ALL walk (10 R162) -/

section
variable {s : State} {d : Dir} {i : Byte}

theorem endWalkStep_within (d : Dir) (i : Byte) (u : State) : OnlyChanges [.arb, .cu, .stat] u (endWalkStep d i u) :=
  onlyChanges_of_frame _ (endWalkStep_frame d i u)

theorem endWalkStep_last (d : Dir) (u : State) (h : i = 255) : endWalkStep d i u = finished .ok u :=
  (if_pos h).trans (endTransaction_eq _)

theorem endWalkStep_next (d : Dir) (u : State) (h : i ≠ 255) : endWalkStep d i u =
    (u.setCu { u.cu with st := .walk d (i + 1) }).setArb ((u.arb.setWait true .command).ended u.store) :=
  (if_neg h).trans (endAndRequest_eq ..)

theorem endWalkStep_events (d : Dir) (i : Byte) (u : State) :
    (endWalkStep d i u).stat.events = if i = 255 then (u.stat.latched [.commandDone]).events else u.stat.events := by
  by_cases h : i = 255
  · exact (congrArg (fun v : State => v.stat.events) (endWalkStep_last d u h)).trans (if_pos h).symm
  · exact (congrArg (fun v : State => v.stat.events) (endWalkStep_next d u h)).trans (if_neg h).symm

theorem endWalkStep_stat (d : Dir) (i : Byte) (u : State) :
    (endWalkStep d i u).stat = { u.stat with events := (endWalkStep d i u).stat.events } := by
  by_cases h : i = 255
  · rw [endWalkStep_last d u h]; rfl
  · rw [endWalkStep_next d u h]; rfl

theorem retire_of_receive (h : d = .receive) : retire d i s =
    ((s.setStore (s.store.withRx i .free .zero)).setStat (s.stat.seesRx i .free .zero)).setFbq
      (s.fbq.filter fun x => !(x.kind = .ack && x.n = i)) :=
  (congrArg (retire · i s) h).trans (freeRxRecord_eq i s)

theorem retire_of_transmit (h : d = .transmit) : retire d i s = ((s.setStore { s.store with
    tx := (freeTxRecord i s).store.tx, index := (freeTxRecord i s).store.index, refs := (freeTxRecord i s).store.refs
    free := (freeTxRecord i s).store.free }).setStat (s.stat.seesTx i .free .zero)).setFbq s.fbq :=
  (congrArg (retire · i s) h).trans (freeTxRecord_eq i s)

theorem retire_within (d : Dir) (i : Byte) (s : State) : OnlyChanges [.store, .stat, .fbq] s (retire d i s) := by
  induction d with
  | receive => exact onlyChanges_of_frame _ (freeRxRecord_frame i s)
  | transmit => exact (onlyChanges_of_frame [.store, .stat] (freeTxRecord_frame i s)).mono rfl

theorem retire_ended (d : Dir) (i : Byte) (s : State) (a : Arbiter) : a.ended (retire d i s).store = a.ended s.store := by
  induction d with
  | receive => exact (congrArg (fun v : State => a.ended v.store) (freeRxRecord_eq i s) :)
  | transmit => exact (congrArg (fun v : State => a.ended v.store) (freeTxRecord_eq i s) :)

theorem retire_events (d : Dir) (i : Byte) (s : State) : (retire d i s).stat.events = s.stat.events := by
  induction d with
  | receive =>
    exact (congrArg (fun v : State => v.stat.events) (freeRxRecord_eq i s)).trans
      (ite_keeps (P := fun v : StatusUnit => v.events = _) (fun _ => rfl) fun _ => rfl)
  | transmit =>
    exact (congrArg (fun v : State => v.stat.events) (freeTxRecord_eq i s)).trans
      (ite_keeps (P := fun v : StatusUnit => v.events = _) (fun _ => rfl) fun _ => rfl)

theorem exec_walkStep (hholds : s.holds .command = true) (hst : s.cu.st = .walk d i) :
    exec .walkStep s = .next (endWalkStep d i (retire d i s)) := by
  refine congrArg Host.Outcome.next ?_
  rw [hst]
  exact if_pos hholds

end

/-- Settles O49: a walk's step retires the record at the index. -/
theorem retireAllWalk : Obligations.RetireAllWalk := by
  refine ⟨fun s htakes => ⟨?rx, ?tx⟩, fun s d i hholds hst => ?step⟩
  case rx => exact exists_next_of_takes htakes rfl rfl (request_eq ..) (by intro t; exact ⟨rfl, rfl, onlyChanges_of_eq _ rfl⟩)
  case tx => exact exists_next_of_takes htakes rfl rfl (request_eq ..) (by intro t; exact ⟨rfl, rfl, onlyChanges_of_eq _ rfl⟩)
  case step =>
    refine exists_next (exec_walkStep hholds hst) rfl ?_
    intro t
    refine ⟨(retire_within d i s).andThen (endWalkStep_within d i _) rfl, fun hi => ⟨?_, ?_⟩, fun hi => ⟨?_, ?_⟩, ?_,
      fun hd => ⟨?_, ?_, ?_⟩, fun hd => ⟨?_, freeTxRecord_leaves ?_ ?_⟩⟩
    · exact (congrArg State.cu (endWalkStep_next d _ hi)).trans
        (congrArg (fun u : CmdUnit => { u with st := .walk d (i + 1) }) ((retire_within d i s).same .cu rfl))
    · exact (congrArg State.arb (endWalkStep_next d _ hi)).trans ((retire_ended d i s _).trans
        (congrArg (fun a : Arbiter => (a.setWait true .command).ended s.store) ((retire_within d i s).same .arb rfl)))
    · exact (congrArg State.cu (endWalkStep_last d _ hi)).trans
        (congrArg (fun u : CmdUnit => { u with st := .idle, result := .ok }) ((retire_within d i s).same .cu rfl))
    · exact (congrArg State.arb (endWalkStep_last d _ hi)).trans ((retire_ended d i s _).trans
        (congrArg (Arbiter.ended s.store) ((retire_within d i s).same .arb rfl)))
    · exact (endWalkStep_events d i _).trans (congrArg (fun e => if i = 255 then e ||| _ else e) (retire_events d i s))
    · exact ((endWalkStep_within d i _).same .store rfl).trans (congrArg State.store (retire_of_receive hd))
    · exact ((endWalkStep_within d i _).same .fbq rfl).trans (congrArg State.fbq (retire_of_receive hd))
    · exact (endWalkStep_stat d i _).trans
        (congrArg (fun v : State => { v.stat with events := t.stat.events }) (retire_of_receive hd))
    · exact ((endWalkStep_within d i _).same .fbq rfl).trans (congrArg State.fbq (retire_of_transmit hd) :)
    · exact ((endWalkStep_within d i _).same .store rfl).trans (congrArg (fun d => (retire d i s).store) hd)
    · exact (endWalkStep_stat d i _).trans
        (congrArg (fun v : State => { v.stat with events := t.stat.events }) (retire_of_transmit hd))

end Sys2Proof.Machine

/-! PROOFS. FIND_TX and CLEAR_DEGRADED. -/

namespace Sys2Proof.Machine

theorem search_onlyChanges (q : Requester) (k : Key) (s : State) : OnlyChanges [.store, .stats, .stat] s (search q k s).1 :=
  onlyChanges_of_frame _ (search_frame q k s)

/-! ## CLEAR_DEGRADED (03 R60) -/

/-- On a quiet store a request is granted at once, and the grant tests the error capture. -/
theorem asked_of_quiet {s : State} (h : StoreQuiet s) (hst : s.store.st ≠ .starting) (q : Requester) :
    s.arb.asked s.store q =
      { (s.arb.setWait true q).setWait false q with granted := some q, last := q, tested := s.store.heldUncorrected } := by
  obtain ⟨hfree, hwaits⟩ := h
  refine (if_neg hst).trans ((arbiterGrantsInRingOrder.2.2 _ _).2.2.1 ((setWait_granted ..).trans hfree) q
    ((setWait_waits ..).trans (if_pos rfl)) fun p hp => ?_)
  have heq : p = q := by_contra fun hne => ne_true_of_eq_false (hwaits p) ((setWait_waits ..).symm.trans hp |> (if_neg hne).symm.trans)
  exact heq ▸ BitVec.le_refl _

theorem clearDegradedWork_of_tested {s : State} (h : s.arb.tested = true) :
    clearDegradedWork s = complete .capturePending s := if_pos h

theorem clearDegradedWork_of_degraded {s : State} (h : s.arb.tested = false) (hst : s.store.st = .degraded) :
    clearDegradedWork s = complete .ok (setDegraded false (s.setStore { s.store with st := .ready })) :=
  (if_neg (ne_true_of_eq_false h)).trans (if_pos hst)

theorem clearDegradedWork_of_not_degraded {s : State} (h : s.arb.tested = false) (hst : s.store.st ≠ .degraded) :
    clearDegradedWork s = complete .ok s := (if_neg (ne_true_of_eq_false h)).trans (if_neg hst)

/-! ## FIND_TX (10 R161) -/

theorem findTxWork_eq {s : State} {k : Key} (hk : windowKey s.cu.window = k) : findTxWork s =
    complete ((search .command k s).2.elim .notFound fun _ => .ok)
      (setFound ((search .command k s).2.getD 0) (search .command k s).1) := by
  unfold findTxWork
  rw [hk]
  induction search .command k s with | mk s1 found
  induction found <;> rfl

theorem search_key {q : Requester} {k : Key} {s : State} {n : Ctx} (h : (search q k s).2 = some n) :
    ((search q k s).1.txRec n).c.key = k := (searchSlots_match _ (Prod.ext rfl h)).2

/-- FIND_TX's completion keeps what its search left, and sets the two fields of the unit. -/
theorem finished_found {s w : State} (h : OnlyChanges [.store, .stats, .stat] s w) {r : Result} {m : Ctx} {R : Prop}
    (hR : (finished r (setFound m w)).cu = { s.cu with st := .idle, result := r, found := m } → R) :
    let t := finished r (setFound m w)
    t.store = w.store ∧ t.stats = w.stats ∧ t.stat = w.stat.latched [.commandDone] ∧ t.arb = w.arb.ended w.store ∧
      OnlyChanges [.cu, .store, .stats, .stat, .arb] s t ∧ R :=
  ⟨rfl, rfl, rfl, rfl, h.andThen ((onlyChanges_of_eq [.cu] rfl).trans (finished_onlyChanges _ _)) rfl,
    hR (congrArg (fun u : CmdUnit => { u with st := .idle, result := r, found := m }) (h.same .cu rfl))⟩

theorem holds_asked_of_quiet {s : State} (h : StoreQuiet s) (hst : s.store.st ≠ .starting) (q : Requester) :
    decide ((s.arb.asked s.store q).granted = some q) = true :=
  (congrArg (fun a : Arbiter => decide (a.granted = some q)) (asked_of_quiet h hst q)).trans (decide_eq_true rfl)

/-- Settles O48: FIND_TX by its search, CLEAR_DEGRADED by what its grant tested. -/
theorem findTxAndClearDegraded : Obligations.FindTxAndClearDegraded := by
  refine ⟨fun s htakes => ⟨exists_started htakes .findTx rfl rfl rfl, ?accepted⟩, fun s n d hholds => ⟨fun hst => ?find, fun hst => ?clear⟩⟩
  case accepted =>
    refine exists_next_of_takes htakes rfl rfl (request_eq .command _) ?_
    intro t
    refine ⟨rfl, rfl, onlyChanges_of_eq _ rfl, fun hquiet => ⟨holds_asked_of_quiet hquiet htakes.2.2 _, ?_, fun w => ?_⟩⟩
    · exact (congrArg (Arbiter.tested · = true) (asked_of_quiet hquiet htakes.2.2 _)).to_iff.trans s.store.heldUncorrected_iff
    · exact exists_next_of_hostOpen (s := t) htakes.1 rfl (by intro u; exact ⟨holds_asked_of_quiet hquiet htakes.2.2 _, rfl, rfl⟩)
  case find =>
    intro k s1
    refine exists_finished hholds hst (findTxWork_eq rfl) (finished_found (search_onlyChanges .command k s) fun hcu => ?_)
    refine ⟨fun j hj => ⟨?_, search_key hj⟩, fun hnone => ?_⟩
    · exact hcu.trans (by rw [hj]; rfl)
    · exact hcu.trans (by rw [hnone]; rfl)
  case clear =>
    refine (Bool.eq_false_or_eq_true s.arb.tested).elim (fun htested => ?_) fun htested => ?_
    · refine exists_finished hholds hst (clearDegradedWork_of_tested htested) ?_
      intro t
      exact ⟨onlyChanges_of_eq _ rfl, rfl, fun _ => ⟨rfl, rfl, rfl⟩, fun h => (Bool.false_ne_true (h.symm.trans htested)).elim⟩
    · have hnot (h : s.arb.tested = true) : False := Bool.false_ne_true (htested.symm.trans h)
      by_cases hdeg : s.store.st = .degraded
      · refine exists_finished hholds hst (clearDegradedWork_of_degraded htested hdeg) ?_
        intro t
        exact ⟨onlyChanges_of_eq _ rfl, rfl, fun h => (hnot h).elim, fun _ =>
          ⟨rfl, fun _ => ⟨rfl, congrArg (fun a : Alarm => { s.stat.latched [.commandDone] with degraded := a })
            (Alarm.to_false s.stat.degraded)⟩, fun h => absurd hdeg h⟩⟩
      · refine exists_finished hholds hst (clearDegradedWork_of_not_degraded htested hdeg) ?_
        intro t
        exact ⟨onlyChanges_of_eq _ rfl, rfl, fun h => (hnot h).elim, fun _ =>
          ⟨rfl, fun h => absurd h hdeg, fun _ => ⟨rfl, rfl⟩⟩⟩

end Sys2Proof.Machine

/-! PROOFS. READ_RX and READ_TX. -/

namespace Sys2Proof.Machine

/-! ## The words of a record (01 R17) -/

/-- The topmost fields of a word, above one more field. -/
theorem place_below {n w lo : Nat} {v : Word} {x : BitVec n} {y : BitVec w} (h : place (lo + w) x = v) :
    place lo (x ++ y) = v ||| place lo y := by
  rw [place_append, h, BitVec.or_comm]

/-- The topmost fields of a word, above a gap. -/
theorem place_below_gap {n k lo : Nat} {v : Word} {x : BitVec n} (h : place (lo + k) x = v) : place lo (x ++ 0#k) = v := by
  rw [place_append, h, place_zero, BitVec.zero_or]

section
variable {s s1 : State} {n : Ctx} {d : Dir} {w : StoreCmd} {code : BitVec 3} {c : Contents} {slot : Option (Fin 4)}

/-- A read's transaction: the record as it stands in the state `s1` that its checked read left fills the window. -/
theorem exists_recordRead (hholds : s.holds .command = true) (hst : s.cu.st = .busy w n d)
    (hwork : commandWork w n d s = complete .ok (setWindow (recordWords n code c slot) s1)) (hcu : s1.cu = s.cu)
    {Q : State → Prop} (hQ : Q (finished .ok (setWindow (recordWords n code c slot) s1))) :
    ∃ t, exec .commandTransaction s = .next t ∧ t.cu = { s.cu with st := .idle, result := .ok, window := t.cu.window } ∧
      t.cu.window[0] = place 0 code ||| placeBit 3 c.pinned ||| place 4 c.tally ||| place 8 c.age ||| place 24 n ∧
      t.cu.window[1] = c.key.origin ++ c.key.target ∧
      t.cu.window[2] = c.key.service ++ c.key.cls ++ c.key.route ++ 0#8 ∧ t.cu.window[3] = c.seq ++ c.stride ∧
      t.cu.window[4] = c.time ∧ t.cu.window[5] = 0#16 ++ c.uses ∧
      t.cu.window[6] = 0#16 ++ c.key.signature ++ 0#2 ++ c.key.bucket ∧ Q t :=
  exists_finished hholds hst hwork
    (by intro t; exact ⟨congrArg (fun u : CmdUnit => { u with st := .idle, result := .ok, window := recordWords n code c slot }) hcu, rfl,
      eq_of_place (place_below rfl), eq_of_place (place_below_gap (place_below (place_below rfl))), eq_of_place (place_below rfl),
      rfl, eq_of_place (place_first (place_top rfl)), eq_of_place (place_first (place_gap (place_field (place_top rfl)))), hQ⟩)

theorem recordRead_within (hread : OnlyChanges [.store, .stats, .stat] s s1) (r : Result) (v : Vector Word 8) :
    OnlyChanges [.cu, .stat, .store, .stats, .arb] s (finished r (setWindow v s1)) :=
  hread.andThen ((onlyChanges_of_eq [.cu] rfl).trans (finished_onlyChanges _ _)) rfl

theorem shownSlot_of_not_slotted (h : (s.txRec n).st.slotted = false) : s.shownSlot n = none :=
  if_neg (ne_true_of_eq_false h)

theorem shownSlot_of_slotted {ref : SlotRef} (h : (s.txRec n).st.slotted = true) (href : s.refOf n = some ref) :
    s.shownSlot n = some ref.slot := (if_pos h).trans (congrArg (Option.map SlotRef.slot) href)

theorem recordWords_none (h : slot = none) : (recordWords n code c slot)[7] = 0 := h ▸ rfl

theorem recordWords_some {i : Fin 4} (h : slot = some i) : (recordWords n code c slot)[7] = BitVec.ofNat 32 (256 + i.val) := by
  have hword : ∀ i : Fin 4, BitVec.ofNat 32 i.val ||| placeBit 8 true = BitVec.ofNat 32 (256 + i.val) := by decide
  exact h ▸ hword i

end

/-- Settles O44: the window after a read, word by word. -/
theorem readCommands : Obligations.ReadCommands := by
  refine ⟨fun st => by induction st <;> rfl, fun st => by induction st <;> rfl, fun s htakes =>
    ⟨exists_started htakes .readRx rfl rfl rfl, exists_started htakes .readTx rfl rfl rfl⟩, fun s n d hholds hst => ?rx,
    fun s n d hholds hst => ?tx⟩
  case rx =>
    intro s1 c
    have hwork : commandWork .readRx n d s =
      complete .ok (setWindow (recordWords n (s1.rxRec n).st.code c none) s1) := rfl
    have hread : OnlyChanges [.store, .stats, .stat] s s1 := readRx_onlyChanges _ _ _
    clear_value s1
    exact exists_recordRead hholds hst hwork (hread.same .cu rfl) ⟨rfl, rfl, rfl, rfl, rfl, recordRead_within hread _ _⟩
  case tx =>
    intro s1 c
    have hwork : commandWork .readTx n d s =
      complete .ok (setWindow (recordWords n (s1.txRec n).st.code c (s1.shownSlot n)) s1) := rfl
    have hread : OnlyChanges [.store, .stats, .stat] s s1 := readTx_onlyChanges _ _ _
    clear_value s1
    exact exists_recordRead hholds hst hwork (hread.same .cu rfl) ⟨fun h => recordWords_none (shownSlot_of_not_slotted h),
      fun ref h href => recordWords_some (shownSlot_of_slotted h href), rfl, rfl, rfl, rfl, recordRead_within hread _ _⟩

end Sys2Proof.Machine

/-! PROOFS. LOAD_RX, RETIRE_RX and RETIRE_TX. -/

namespace Sys2Proof.Machine

/-! ## Loadable windows (01 R18) -/

theorem ite_and_of_eq {α : Type} {a : Nat} {p : Prop} [Decidable p] {x y : α} :
    (if a = a ∧ p then x else y) = if p then x else y := if_congr (and_iff_right rfl) rfl rfl

/-- A choice by a code, as a chain of tests. -/
theorem match_code_eq {α : Type} (code : Nat) {p0 p1 p2 p3 : Prop} [Decidable p0] [Decidable p1] [Decidable p2] [Decidable p3]
    (a0 a1 a2 a3 a4 : α) :
    (match code with
      | 0 => if p0 then a0 else a4
      | 1 => if p1 then a1 else a4
      | 2 => if p2 then a2 else a4
      | 3 => if p3 then a3 else a4
      | _ => a4) =
    if code = 0 ∧ p0 then a0 else if code = 1 ∧ p1 then a1 else if code = 2 ∧ p2 then a2 else if code = 3 ∧ p3 then a3 else a4 := by
  rcases code with _ | _ | _ | _ | code
  · exact (ite_and_of_eq (a := 0) (p := p0) (y := a4)).symm
  · exact (ite_and_of_eq (a := 1) (p := p1) (y := a4)).symm
  · exact (ite_and_of_eq (a := 2) (p := p2) (y := a4)).symm
  · exact (ite_and_of_eq (a := 3) (p := p3) (y := a4)).symm
  · rfl

theorem windowRx_free {w : Vector Word 8} {c : Contents} (h : windowRx w = some (.free, c)) : c = .zero :=
  (windowRx_sound h).bare rfl

/-- An ACK leaves the queue with a record that is made FREE. -/
theorem loadRxWork_eq {n : Ctx} {s : State} {st : RxState} {c : Contents} (h : windowRx s.cu.window = some (st, c)) :
    loadRxWork n s = complete .ok (((s.setStore (s.store.withRx n st c)).setStat (s.stat.seesRx n st c)).setFbq
      (if st = .free then s.fbq.filter fun x => !(x.kind = .ack && x.n = n) else s.fbq)) := by
  rw [loadRxWork, h]
  induction st with
  | free => exact windowRx_free h ▸ congrArg (complete .ok) (freeRxRecord_eq n s)
  | _ => exact congrArg (complete .ok) (writeRx_eq ..)

/-- Settles O45: LOAD_RX tests the window before it is accepted; a retired record is FREE. -/
theorem loadRxAndRetire : Obligations.LoadRxAndRetire := by
  refine ⟨fun w => match_code_eq .., fun s htakes => ⟨fun hload => ?load, fun hbad => ?bad, exists_started htakes .retireRx rfl rfl rfl,
    exists_started htakes .retireTx rfl rfl rfl⟩, fun s n d hholds => ?work⟩
  case load => exact exists_started htakes .loadRx rfl (if_pos hload) rfl
  case bad =>
    exact exists_next_of_takes htakes rfl rfl (if_neg (hbad ▸ Bool.false_ne_true)) (by intro t; exact ⟨completed_cu htakes _, rfl,
      completed_within (.refl [] _) rfl⟩)
  case work =>
    intro done
    refine ⟨fun st c hst hw => ?loaded, fun hst => ?rx, fun hst => ?tx⟩
    case loaded =>
      refine exists_finished hholds hst (loadRxWork_eq hw) ?_
      intro t
      exact ⟨rfl, rfl, rfl, rfl, rfl, (onlyChanges_of_eq [.store, .stat, .fbq] rfl).andThen (finished_onlyChanges _ _) rfl⟩
    case rx =>
      refine exists_finished hholds hst (congrArg (complete .ok) (freeRxRecord_eq n s)) ?_
      intro t
      exact ⟨rfl, rfl, rfl, rfl, rfl, (onlyChanges_of_eq [.store, .stat, .fbq] rfl).andThen (finished_onlyChanges _ _) rfl⟩
    case tx =>
      refine exists_finished hholds hst (congrArg (complete .ok) (freeTxRecord_eq n s)) ?_
      intro t
      refine ⟨rfl, freeTxRecord_leaves (s := s) ?_ ⟨rfl, rfl,
        (onlyChanges_of_eq [.store, .stat] rfl).andThen (finished_onlyChanges _ _) rfl⟩⟩
      exact (congrArg State.store (freeTxRecord_eq n s).symm :)

end Sys2Proof.Machine

/-! PROOFS. LOAD_TX. -/

namespace Sys2Proof.Machine

/-- The store with a transmit record installed in a slot (03 R40 to R43). -/
noncomputable def Store.installed (n : Ctx) (st : TxState) (c : Contents) (b : BitVec 6) (i : Fin 4) (sig : Byte) (t : Store) :
    Store :=
  { t.withTx n st c with
    index := t.index.set b.toNat ((t.index[b.toNat]'b.isLt).set i (some ⟨n, sig⟩)) b.isLt
    refs := Table.put t.refs n (some ⟨b, i⟩)
    free := Table.put t.free n false }

theorem writeTx_fillSlot_eq (n : Ctx) (st : TxState) (c : Contents) (b : BitVec 6) (i : Fin 4) (sig : Byte) (s : State) :
    writeTx n st c (fillSlot n b i sig s) =
      (s.setStore (s.store.installed n st c b i sig)).setStat (s.stat.seesTx n st c) := writeTx_eq ..

section
variable {n : Ctx} {st : TxState} {c : Contents} {s s1 : State} {i : Fin 4} {found : Option Ctx}

/-- LOAD_TX's transaction: its result, and the state it completes; `s1` and `found`: what its search left and found. -/
noncomputable def loadOutcome (n : Ctx) (st : TxState) (c : Contents) (s s1 : State) (found : Option Ctx) : Result × State :=
  if (s.txRec n).st.slotted then (.notFree, s)
  else found.elim ((s1.emptySlot c.key.bucket).elim (.bucketFull, s1) fun i =>
    (.ok, (s1.setStore (s1.store.installed n st c c.key.bucket i c.key.signature)).setStat (s1.stat.seesTx n st c)))
    fun _ => (.duplicateKey, s1)

theorem loadTxWork_eq (h : windowTx s.cu.window = some (st, c)) : loadTxWork n s =
    complete (loadOutcome n st c s (search .command c.key s).1 (search .command c.key s).2).1
      (loadOutcome n st c s (search .command c.key s).1 (search .command c.key s).2).2 := by
  unfold loadTxWork loadOutcome
  rw [h]
  by_cases hslotted : (s.txRec n).st.slotted = true
  · exact (if_pos hslotted).trans (by rw [if_pos hslotted])
  · refine (if_neg hslotted).trans ?_
    rw [if_neg hslotted]
    induction search .command c.key s with | mk s1 found
    induction found with
    | some _ => rfl
    | none =>
      dsimp only [Option.elim]
      induction s1.emptySlot c.key.bucket with
      | none => rfl
      | some i => exact congrArg (complete .ok) (writeTx_fillSlot_eq ..)

theorem loadOutcome_of_slotted (h : (s.txRec n).st.slotted = true) : loadOutcome n st c s s1 found = (.notFree, s) := if_pos h

theorem loadOutcome_of_found {k : Ctx} (h : (s.txRec n).st.slotted = false) (hfound : found = some k) :
    loadOutcome n st c s s1 found = (.duplicateKey, s1) := (if_neg (ne_true_of_eq_false h)).trans (hfound ▸ rfl)

theorem loadOutcome_of_full (h : (s.txRec n).st.slotted = false) (hfound : found = none)
    (hfull : ∀ j, s1.slotAt c.key.bucket j ≠ none) : loadOutcome n st c s s1 found = (.bucketFull, s1) :=
  (if_neg (ne_true_of_eq_false h)).trans (hfound ▸ congrArg (Option.elim · _ _) (emptySlot_none hfull))

theorem loadOutcome_of_slot (h : (s.txRec n).st.slotted = false) (hfound : found = none)
    (hi : s1.slotAt c.key.bucket i = none) (hlow : ∀ j, j < i → s1.slotAt c.key.bucket j ≠ none) :
    loadOutcome n st c s s1 found =
      (.ok, (s1.setStore (s1.store.installed n st c c.key.bucket i c.key.signature)).setStat (s1.stat.seesTx n st c)) :=
  (if_neg (ne_true_of_eq_false h)).trans (hfound ▸ congrArg (Option.elim · _ _) (emptySlot_eq hi hlow))

/-- What a load past its first test leaves of the search's state. -/
theorem loadOutcome_within (h : (s.txRec n).st.slotted = false) : OnlyChanges [.store, .stat] s1 (loadOutcome n st c s s1 found).2 ∧
    (loadOutcome n st c s s1 found).2.arb.ended (loadOutcome n st c s s1 found).2.store = s1.arb.ended s1.store := by
  unfold loadOutcome
  rw [if_neg (ne_true_of_eq_false h)]
  induction found with
  | some _ => exact ⟨.refl _ _, rfl⟩
  | none =>
    dsimp only [Option.elim]
    induction s1.emptySlot c.key.bucket with
    | none => exact ⟨.refl _ _, rfl⟩
    | some i => exact ⟨onlyChanges_of_eq _ rfl, rfl⟩

/-- The end of a command whose result and state are known. -/
theorem finished_of_eq {x : Result × State} {r : Result} {w : State} (hx : x = (r, w)) (hcu : w.cu = s.cu) :
    (finished x.1 x.2).cu = { s.cu with st := .idle, result := r } ∧ (finished x.1 x.2).store = w.store ∧
      (finished x.1 x.2).stat = w.stat.latched [.commandDone] := by
  obtain rfl := hx
  exact ⟨finished_cu hcu r, rfl, rfl⟩

end

/-- Settles O46: the three refusals in order, and the record installed with its slot. -/
theorem loadTxCommand : Obligations.LoadTxCommand := by
  refine ⟨fun w => ⟨rfl, rfl⟩, fun s htakes => ⟨fun hload => exists_started htakes .loadTx rfl (if_pos hload) rfl, fun hbad => ?bad⟩,
    fun s n d st c hholds hst hw => ?loaded⟩
  case bad =>
    exact exists_next_of_takes htakes rfl rfl (if_neg (hbad ▸ Bool.false_ne_true)) (by intro t; exact ⟨completed_cu htakes _, rfl,
      completed_within (.refl [] _) rfl⟩)
  case loaded =>
    intro b s1 found
    have hsearch : OnlyChanges [.store, .stats, .stat] s s1 := search_onlyChanges _ _ _
    have hwork : commandWork .loadTx n d s =
      complete (loadOutcome n st c s s1 found).1 (loadOutcome n st c s s1 found).2 := loadTxWork_eq hw
    clear_value s1 found
    have hcu : s1.cu = s.cu := hsearch.same .cu rfl
    refine exists_finished hholds hst hwork ⟨?within, fun h => ?refused, fun h => ?searched,
      fun k h hfound => finished_of_eq (loadOutcome_of_found h hfound) hcu,
      fun h hfound hfull => finished_of_eq (loadOutcome_of_full h hfound hfull) hcu,
      fun i h hfound hi hlow => finished_of_eq (loadOutcome_of_slot h hfound hi hlow) hcu⟩
    case refused =>
      rw [loadOutcome_of_slotted h]
      exact ⟨rfl, rfl, rfl, rfl, rfl⟩
    case searched =>
      obtain ⟨hwithin, harb⟩ := loadOutcome_within (n := n) (st := st) (c := c) (s := s) (s1 := s1) (found := found) h
      exact ⟨hwithin.same .stats rfl, harb⟩
    case within =>
      cases hslotted : (s.txRec n).st.slotted with
      | true => exact loadOutcome_of_slotted hslotted ▸ (finished_onlyChanges _ s).mono rfl
      | false => exact (hsearch.trans (loadOutcome_within hslotted).1).andThen (finished_onlyChanges _ _) rfl

end Sys2Proof.Machine

/-! PROOFS. Received feedback entries. -/

namespace Sys2Proof.Machine

section
variable {s s1 u : State} {k : Fin 2} {n : Ctx} {rest : List FbEntry}

theorem endEntry_nil (k : Fin 2) (u : State) :
    endEntry (some k) [] u = (releaseBuf k (u.setExp .idle)).setArb (u.arb.ended u.store) := endTransaction_eq _

theorem endEntry_cons (k : Fin 2) (e : FbEntry) (es : List FbEntry) (u : State) : endEntry (some k) (e :: es) u =
    (u.setExp (.busy k (.feedback e es))).setArb ((u.arb.setWait true .expander).ended u.store) := endAndRequest_eq ..

/-- The entry's transaction on a state `u` whose store grants as the checked read's state `s1` does. -/
theorem endEntry_spec (hread : OnlyChanges [.store, .stats, .stat] s s1) (hu : OnlyChanges [.store, .stats, .stat] s u)
    (hended : ∀ a : Arbiter, a.ended u.store = a.ended s1.store) {R : Prop} (hR : R) :
    let t := endEntry (some k) rest u
    OnlyChanges [.store, .stats, .stat, .exp, .lrx, .arb] s t ∧
      (rest = [] → t.exp = .idle ∧ t.lrx = { s.lrx with bufs := s.lrx.bufs.set k .empty } ∧ t.arb = s1.arb.ended s1.store) ∧
      (∀ e es, rest = e :: es → t.exp = .busy k (.feedback e es) ∧ t.lrx = s.lrx ∧
        t.arb = (s1.arb.setWait true .expander).ended s1.store) ∧ R := by
  have harb : u.arb = s1.arb := (hu.same .arb rfl).trans (hread.same .arb rfl).symm
  refine ⟨hu.andThen (onlyChanges_of_frame [.arb, .exp, .lrx] (endEntry_frame ..)) rfl, fun hnil => ?_, fun e es hcons => ?_, hR⟩
  · subst hnil
    exact endEntry_nil k u ▸ ⟨rfl, congrArg (fun l : LineRx => { l with bufs := l.bufs.set k .empty }) (hu.same .lrx rfl),
      (hended _).trans (congrArg _ harb)⟩
  · subst hcons
    exact endEntry_cons k e es u ▸ ⟨rfl, hu.same .lrx rfl,
      (hended _).trans (congrArg (fun a : Arbiter => (a.setWait true .expander).ended _) harb)⟩

theorem exec_ackApply {b : Option (Fin 2)} (h : s.expTransaction = some (b, .feedback ⟨.ack, n⟩ rest)) :
    exec .ackApply s = .next (endEntry b rest (ackEntry n s)) := by
  refine congrArg Host.Outcome.next ?_
  rw [h]

theorem exec_refreshApply {b : Option (Fin 2)} (h : s.expTransaction = some (b, .feedback ⟨.refresh, n⟩ rest)) :
    exec .refreshApply s = .next (endEntry b rest (refreshEntry n s)) := by
  refine congrArg Host.Outcome.next ?_
  rw [h]

/-- The work of an entry's transaction. -/
noncomputable def entryWork (kind : FbKind) (n : Ctx) (s : State) : State :=
  match kind with
  | .ack => ackEntry n s
  | .refresh => refreshEntry n s

theorem exec_entryApply {kind : FbKind} (hholds : s.holds .expander = true) (hexp : s.exp = .busy k (.feedback ⟨kind, n⟩ rest)) :
    exec (match (generalizing := false) kind with | .ack => .ackApply | .refresh => .refreshApply) s = .next (endEntry (some k) rest (entryWork kind n s)) := by
  induction kind with
  | ack => exact exec_ackApply (expTransaction_of_busy hholds hexp)
  | refresh => exact exec_refreshApply (expTransaction_of_busy hholds hexp)

/-- What the entry's transaction leaves is what its work left. -/
theorem endEntry_fields {kind kind' : FbKind} (hkind : kind = kind') (h : entryWork kind' n s = u) :
    let t := endEntry (some k) rest (entryWork kind n s)
    t.store = u.store ∧ t.stat = u.stat ∧ t.stats = u.stats := by
  subst hkind h
  have hframe := onlyChanges_of_frame [.arb, .exp, .lrx] (endEntry_frame (some k) rest (entryWork kind n s))
  exact ⟨hframe.same .store rfl, hframe.same .stat rfl, hframe.same .stats rfl⟩

theorem makeRefreshing_of_opened {r : Record TxState} (hr : s.txRec n = r) (h : r.st = .opened ∨ r.st = .opening) :
    makeRefreshing n s = writeTx n .refreshing { r.c with tally := 0 } s := hr ▸ if_pos (hr ▸ h)

theorem makeRefreshing_of_not_opened {r : Record TxState} (hr : s.txRec n = r) (h : ¬ (r.st = .opened ∨ r.st = .opening)) :
    makeRefreshing n s = s := if_neg (hr ▸ h)

theorem makeRefreshing_ended (n : Ctx) (s : State) (a : Arbiter) : a.ended (makeRefreshing n s).store = a.ended s.store := by
  by_cases h : (s.txRec n).st = .opened ∨ (s.txRec n).st = .opening
  · exact (congrArg (fun v : State => a.ended v.store) ((makeRefreshing_of_opened rfl h).trans (writeTx_eq ..)) :)
  · exact (congrArg (fun v : State => a.ended v.store) (makeRefreshing_of_not_opened rfl h) :)

section
variable {r : Record TxState} (hr : (readTx .expander n s).txRec n = r)
include hr

theorem ackEntry_of_opening (h : r.st = .opening) : entryWork .ack n s = writeTx n .opened r.c (readTx .expander n s) :=
  hr ▸ if_pos (hr ▸ h)

theorem ackEntry_of_not_opening (h : r.st ≠ .opening) : entryWork .ack n s = readTx .expander n s := if_neg (hr ▸ h)

theorem refreshEntry_of_opened (h : r.st = .opened ∨ r.st = .opening) :
    entryWork .refresh n s = writeTx n .refreshing { r.c with tally := 0 } (readTx .expander n s) := by
  have hslotted : r.st.slotted = true := h.elim (fun h => h ▸ rfl) fun h => h ▸ rfl
  exact (if_pos (hr ▸ hslotted)).trans (makeRefreshing_of_opened hr h)

theorem refreshEntry_of_refreshing (h : r.st = .refreshing) : entryWork .refresh n s = readTx .expander n s := by
  have hslotted : r.st.slotted = true := h ▸ rfl
  exact (if_pos (hr ▸ hslotted)).trans (makeRefreshing_of_not_opened hr (h ▸ by decide))

theorem refreshEntry_of_bare (h : r.st = .free ∨ r.st = .damaged) :
    entryWork .refresh n s = raise .fbStray (readTx .expander n s) := by
  subst hr
  exact if_neg (ne_true_of_eq_false (TxState.slotted_eq_false_iff.mpr h))

end

/-- An entry's work leaves the arbiter's view of the store as the checked read left it. -/
theorem entryWork_ended (kind : FbKind) (n : Ctx) (s : State) (a : Arbiter) :
    a.ended (entryWork kind n s).store = a.ended (readTx .expander n s).store := by
  induction kind with
  | ack =>
    by_cases h : ((readTx .expander n s).txRec n).st = .opening
    · exact (congrArg (fun v : State => a.ended v.store) ((ackEntry_of_opening rfl h).trans (writeTx_eq ..)) :)
    · exact (congrArg (fun v : State => a.ended v.store) (ackEntry_of_not_opening rfl h) :)
  | refresh =>
    exact ite_keeps (P := fun v : State => a.ended v.store = _) (fun _ => makeRefreshing_ended n _ a) fun _ => rfl

theorem entryWork_onlyChanges (kind : FbKind) (n : Ctx) (s : State) : OnlyChanges [.store, .stats, .stat] s (entryWork kind n s) := by
  induction kind with
  | ack => exact onlyChanges_of_frame _ (ackEntry_frame n s)
  | refresh => exact onlyChanges_of_frame _ (refreshEntry_frame n s)

end

/-- Settles O24, by the state of the record. -/
theorem feedbackEntriesApplied : Obligations.FeedbackEntriesApplied := by
  intro s k n kind rest hholds hexp s1 r zeroed
  refine exists_next (exec_entryApply hholds hexp) rfl ?_
  intro t
  refine endEntry_spec (readTx_onlyChanges _ _ _) (entryWork_onlyChanges _ _ _) (entryWork_ended _ _ _) ⟨fun hack => ?_, fun hrefresh => ?_⟩
  · refine ⟨?_, fun h => ?_, fun h => ?_⟩
    · by_cases h : r.st = .opening
      · exact (endEntry_fields hack ((ackEntry_of_opening rfl h).trans (writeTx_eq ..))).2.2
      · exact (endEntry_fields hack (ackEntry_of_not_opening rfl h)).2.2
    · exact (endEntry_fields hack ((ackEntry_of_opening rfl h).trans (writeTx_eq ..))).imp_right And.left
    · exact (endEntry_fields hack (ackEntry_of_not_opening rfl h)).imp_right And.left
  · refine ⟨fun h => ?_, fun h => ?_, fun h => ?_⟩
    · exact endEntry_fields hrefresh ((refreshEntry_of_opened rfl h).trans (writeTx_eq ..))
    · exact endEntry_fields hrefresh (refreshEntry_of_refreshing rfl h)
    · exact endEntry_fields hrefresh (refreshEntry_of_bare rfl h)

end Sys2Proof.Machine

/-! PROOFS. DELTA and BRIEF frames. -/

namespace Sys2Proof.Machine

/-! ## The hypotheses of a BRIEF frame (04 R72) -/

section
variable {c : Contents} {p : List Byte} {check : BitVec 7}

theorem firstHypothesis_eq {j : Nat} (hj : headerCheck (briefHeader c j p) = check) {fuel k : Nat} (hk : k ≤ j)
    (hfuel : j < k + fuel) (hfirst : ∀ i, k ≤ i → i < j → headerCheck (briefHeader c i p) ≠ check) :
    firstHypothesis c p check fuel k = some j := by
  induction fuel generalizing k with
  | zero => exact absurd hfuel (Nat.not_lt.mpr hk)
  | succ fuel ih =>
    obtain rfl | hlt := Nat.eq_or_lt_of_le hk
    · exact if_pos hj
    · exact (if_neg (hfirst k (Nat.le_refl k) hlt)).trans
        (ih hlt (Nat.succ_add_eq_add_succ k fuel ▸ hfuel) fun i hi => hfirst i (Nat.le_of_succ_le hi))

theorem firstHypothesis_none {fuel k : Nat} (h : ∀ j, k ≤ j → j < k + fuel → headerCheck (briefHeader c j p) ≠ check) :
    firstHypothesis c p check fuel k = none := by
  induction fuel generalizing k with
  | zero => rfl
  | succ fuel ih =>
    exact (if_neg (h k (Nat.le_refl k) (Nat.lt_add_of_pos_right fuel.succ_pos))).trans
      (ih fun j hj hlt => h j (Nat.le_of_succ_le hj) (Nat.succ_add_eq_add_succ k fuel ▸ hlt))

end

/-! ## The rows of compressed frames (04 R70, R72) -/

section
variable {s s1 u : State} {n : Ctx} {check : BitVec 7} {p : List Byte} {b : Option (Fin 2)} {k : Fin 2}

theorem exec_expandDelta {d : Nat} {q : Int} {v : Option Half} (h : s.expTransaction = some (b, .delta n d q v check p)) :
    exec .expandDelta s =
      .next (endExpTransaction b (deltaTransaction n d q v check p s).2 (deltaTransaction n d q v check p s).1) := by
  refine congrArg Host.Outcome.next ?_
  rw [h]

theorem exec_expandBrief (h : s.expTransaction = some (b, .brief n check p)) :
    exec .expandBrief s = .next (endExpTransaction b (briefTransaction n check p s).2 (briefTransaction n check p s).1) := by
  refine congrArg Host.Outcome.next ?_
  rw [h]

/-- A frame whose transaction leaves `u` and an entry to write. -/
theorem exists_delivered {i : Instr} {x : State × Option RxEntry} {e : RxEntry} (hexec : exec i s = .next (endExpTransaction (some k) x.2 x.1))
    (hx : x = (u, some e)) (hu : OnlyChanges [.store, .stats, .stat] s u) {Q : State → Prop}
    (hQ : ∀ t : State, t.exp = .deliver k e → t.store = u.store → t.stat = u.stat → t.stats = u.stats →
      t.arb = u.arb.ended u.store → OnlyChanges [.store, .stats, .stat, .exp, .arb] s t → Q t) :
    ∃ t, exec i s = .next t ∧ Q t :=
  exists_next (hx ▸ hexec :) (endExpTransaction_deliver ..) (hQ _ rfl rfl rfl rfl rfl (hu.andThen (onlyChanges_of_eq [.exp, .arb] rfl) rfl))

/-- The state after an accepted frame's record is written and it is counted. -/
noncomputable def accepted (n : Ctx) (c : Contents) (ks : List Counter) (s : State) : State :=
  ((s.setStore (s.store.withRx n .live c)).setStat (s.stat.seesRx n .live c)).setStats (s.stats.counted ks)

theorem accepted_within (c : Contents) (ks : List Counter) (h : OnlyChanges [.store, .stats, .stat] s s1) :
    OnlyChanges [.store, .stats, .stat] s (accepted n c ks s1) := h.andThen (onlyChanges_of_eq [.store, .stats, .stat] rfl) rfl

theorem repaired_eq (j : Nat) (c : Contents) :
    (if 2 ≤ j then raise .repaired (raise .expBrief (writeRx n .live c s)) else raise .expBrief (writeRx n .live c s)) =
      accepted n c (.expBrief :: if 2 ≤ j then [.repaired] else []) s := by
  rw [writeRx_eq]
  by_cases h : 2 ≤ j
  · rw [if_pos h, if_pos h]
    rfl
  · rw [if_neg h, if_neg h]
    rfl

theorem briefTransaction_of_first {j : Nat}
    (hst : ((readRx .expander n s).rxRec n).st = .live ∨ ((readRx .expander n s).rxRec n).st = .suspect)
    (hj : firstHypothesis ((readRx .expander n s).rxRec n).c p check ((readRx .expander n s).cfg.repairDepth.toNat + 1) 1 = some j) :
    briefTransaction n check p s =
      let s1 := readRx .expander n s
      let c := (s1.rxRec n).c
      let s2 := raise .expBrief (writeRx n .live (acceptedContents c (briefHeader c j p) c.stride) s1)
      ((if 2 ≤ j then raise .repaired s2 else s2),
        some { plainEntry .brief n (briefHeader c j p) p with repaired := BitVec.ofNat 2 (j - 1) }) := by
  refine (if_pos hst).trans ?_
  dsimp only
  rw [hj]

theorem briefTransaction_of_none
    (hst : ((readRx .expander n s).rxRec n).st = .live ∨ ((readRx .expander n s).rxRec n).st = .suspect)
    (hj : firstHypothesis ((readRx .expander n s).rxRec n).c p check ((readRx .expander n s).cfg.repairDepth.toNat + 1) 1 = none) :
    briefTransaction n check p s =
      (checkFails n ((readRx .expander n s).rxRec n).st ((readRx .expander n s).rxRec n).c (readRx .expander n s), none) := by
  refine (if_pos hst).trans ?_
  dsimp only
  rw [hj]

end

/-- Settles O21: a header whose check matches is accepted on a LIVE or SUSPECT context. -/
theorem compressedFrameAccepted : Obligations.CompressedFrameAccepted := by
  intro s k n check p hholds s1 r hst after
  have hread : OnlyChanges [.store, .stats, .stat] s s1 := readRx_onlyChanges _ _ _
  constructor
  · intro d q v hexp used h hcheck
    have hwork : deltaTransaction n d q v check p s =
      (raise .expDelta (writeRx n .live (after h used) s1), some (plainEntry .delta n h p)) := (if_pos hst).trans (if_pos hcheck)
    clear_value s1
    rw [writeRx_eq] at hwork
    exact exists_delivered (exec_expandDelta (expTransaction_of_busy hholds hexp)) hwork
      (accepted_within (after h used) [.expDelta] hread)
      fun t hexp hstore hstat hstats harb hall => ⟨hexp, hstore, hstat, hstats, harb, hall⟩
  · intro j hexp hj hdepth h hcheck hfirst
    have hsame : s1.cfg = s.cfg := hread.same .cfg rfl
    have hwork : briefTransaction n check p s = _ := briefTransaction_of_first hst (firstHypothesis_eq (fuel := s1.cfg.repairDepth.toNat + 1)
      hcheck hj (hsame ▸ (Nat.lt_succ_of_le hdepth).trans_eq (Nat.add_comm _ 1)) hfirst)
    change briefTransaction n check p s = ((if 2 ≤ j then raise .repaired (raise .expBrief (writeRx n .live (after (h j) r.c.stride) s1))
      else raise .expBrief (writeRx n .live (after (h j) r.c.stride) s1)),
        some { plainEntry .brief n (h j) p with repaired := BitVec.ofNat 2 (j - 1) }) at hwork
    clear_value s1
    rw [repaired_eq] at hwork
    exact exists_delivered (exec_expandBrief (expTransaction_of_busy hholds hexp)) hwork (accepted_within _ _ hread)
      fun t hexp hstore hstat hstats harb hall => ⟨hexp, hstore, hstat, hstats, harb, hall⟩

end Sys2Proof.Machine

/-! PROOFS. DELTA and BRIEF frames that are refused. -/

namespace Sys2Proof.Machine

section
variable {s s1 u v : State} {n : Ctx} {c : Contents} {k : Fin 2}

/-- What a transaction that refuses its frame on context `n` leaves of the state `v` that its checked read left, with the
queue `q`: a failed check below the limit, a context lost at the limit, or no context to try the frame on. -/
def FrameRefused (n : Ctx) (r : Record RxState) (limit : BitVec 3) (q : List FbEntry) (v u : State) : Prop :=
    ((r.st = .live ∨ r.st = .suspect) → r.c.tally.toNat + 1 < limit.toNat →
      u.store = v.store.withRx n .suspect { r.c with tally := r.c.tally + 1 } ∧
        u.stat = v.stat.seesRx n .suspect { r.c with tally := r.c.tally + 1 } ∧
        u.stats = v.stats.counted [.checkFail] ∧ u.fbq = q) ∧
    ((r.st = .live ∨ r.st = .suspect) → limit.toNat ≤ r.c.tally.toNat + 1 →
      u.store = v.store.withRx n .lost { r.c with tally := 0 } ∧
        u.stat = (v.stat.seesRx n .lost { r.c with tally := 0 }).latched (.contextLost :: overflowEvent q ⟨.refresh, n⟩) ∧
        u.stats = v.stats.counted (.checkFail :: overflowCount q ⟨.refresh, n⟩) ∧ u.fbq = (offerTo q ⟨.refresh, n⟩).1) ∧
    ((r.st = .free ∨ r.st = .lost ∨ r.st = .damaged) →
      u.store = v.store ∧ u.stat = v.stat.latched (overflowEvent q ⟨.refresh, n⟩) ∧
        u.stats = v.stats.counted (.discardNoContext :: overflowCount q ⟨.refresh, n⟩) ∧ u.fbq = (offerTo q ⟨.refresh, n⟩).1)

/-- A transaction that refuses its frame, on the state `v` that its checked read left. -/
def Refuses (n : Ctx) (r : Record RxState) (v u : State) : Prop :=
  OnlyChanges [.store, .stats, .stat, .fbq] v u ∧ u.arb.ended u.store = v.arb.ended v.store ∧
    FrameRefused n r v.cfg.failLimit v.fbq v u

/-- The row of a frame whose transaction refuses it. -/
theorem exists_refused {i : Instr} {r : Record RxState} {x : State × Option RxEntry} (hread : OnlyChanges [.store, .stats, .stat] s s1)
    (hexec : exec i s = .next (endExpTransaction (some k) x.2 x.1)) (hx : x = (u, none))
    (hrefused : Refuses n r s1 u) :
    ∃ t, exec i s = .next t ∧ t.exp = .idle ∧ t.lrx = { s.lrx with bufs := s.lrx.bufs.set k .empty } ∧
      t.arb = s1.arb.ended s1.store ∧ OnlyChanges [.store, .stats, .stat, .fbq, .exp, .lrx, .arb] s t ∧
      FrameRefused n r s.cfg.failLimit s.fbq s1 t :=
  have ⟨hwithin, hended, hrest⟩ := hrefused
  have hcfg : s1.cfg = s.cfg := hread.same .cfg rfl
  have hfbq : s1.fbq = s.fbq := hread.same .fbq rfl
  exists_next (hx ▸ hexec :) (endExpTransaction_discard ..) (by intro t; exact ⟨rfl, congrArg (fun l : LineRx => { l with bufs := l.bufs.set k .empty })
    ((hread.trans hwithin).same .lrx rfl), hended, (hread.trans hwithin).andThen (onlyChanges_of_eq [.exp, .lrx, .arb] rfl) rfl, hcfg ▸ hfbq ▸ hrest⟩)

theorem offer_within (e : FbEntry) (s : State) : OnlyChanges [.fbq, .stats, .stat] s (offer e s) :=
  onlyChanges_of_frame _ (offer_frame e s)

theorem offer_ended (e : FbEntry) (s : State) : (offer e s).arb.ended (offer e s).store = s.arb.ended s.store :=
  congrArg₂ Arbiter.ended ((offer_within e s).same .store rfl) ((offer_within e s).same .arb rfl)

theorem RxState.not_absent {st : RxState} (h : st = .live ∨ st = .suspect) : ¬ (st = .free ∨ st = .lost ∨ st = .damaged) := by
  revert h
  induction st <;> decide

theorem Refuses.noContext {r : Record RxState} (h : ¬ (r.st = .live ∨ r.st = .suspect)) :
    Refuses n r v (noContext n v) :=
  have hoffer := offer_within ⟨.refresh, n⟩ (raise .discardNoContext v)
  ⟨(onlyChanges_of_eq [.stats] rfl).andThen hoffer rfl, offer_ended _ (raise .discardNoContext v), fun hst => absurd hst h,
    fun hst => absurd hst h, fun _ => ⟨hoffer.same .store rfl, offer_stat _ (raise .discardNoContext v),
      (offer_stats _ (raise .discardNoContext v)).trans (Stats.counted_counted v.stats [.discardNoContext] _), offer_fbq ..⟩⟩

theorem checkFails_lost {st : RxState} (h : v.cfg.failLimit.toNat ≤ c.tally.toNat + 1) : checkFails n st c v = offer ⟨.refresh, n⟩
    (setEvent .contextLost (((v.setStats (v.stats.counted [.checkFail])).setStore (v.store.withRx n .lost { c with tally := 0 })).setStat
      (v.stat.seesRx n .lost { c with tally := 0 }))) :=
  (if_pos h).trans (congrArg (fun u => offer ⟨.refresh, n⟩ (setEvent .contextLost u)) (writeRx_eq _ _ _ (raise .checkFail v)))

theorem checkFails_below {st : RxState} (h : c.tally.toNat + 1 < v.cfg.failLimit.toNat) (hst : st = .live ∨ st = .suspect) :
    checkFails n st c v = ((v.setStats (v.stats.counted [.checkFail])).setStore
      (v.store.withRx n .suspect { c with tally := c.tally + 1 })).setStat (v.stat.seesRx n .suspect { c with tally := c.tally + 1 }) :=
  (if_neg (Nat.not_le.mpr h)).trans ((congrArg (writeRx n · _ (raise .checkFail v)) (if_pos hst)).trans (writeRx_eq ..))

theorem Refuses.checkFails {r : Record RxState} (hst : r.st = .live ∨ r.st = .suspect) :
    Refuses n r v (checkFails n r.st r.c v) := by
  rcases Nat.lt_or_ge (r.c.tally.toNat + 1) v.cfg.failLimit.toNat with hlimit | hlimit
  · rw [checkFails_below hlimit hst]
    exact ⟨onlyChanges_of_eq _ rfl, rfl, fun _ _ => ⟨rfl, rfl, rfl, rfl⟩, fun _ h => absurd hlimit (Nat.not_lt.mpr h), fun h => absurd h (RxState.not_absent hst)⟩
  · rw [checkFails_lost hlimit]
    exact ⟨(onlyChanges_of_eq [.store, .stats, .stat] rfl).andThen (offer_within _ _) rfl, offer_ended .., fun _ h => absurd h (Nat.not_lt.mpr hlimit),
      fun _ _ => ⟨(offer_within _ _).same .store rfl, (offer_stat ..).trans (StatusUnit.latched_latched _ [.contextLost] _),
        (offer_stats ..).trans (Stats.counted_counted _ [.checkFail] _), offer_fbq ..⟩, fun h => absurd h (RxState.not_absent hst)⟩

/-- A DELTA frame that is refused. -/
theorem deltaTransaction_refused {d : Nat} {q : Int} {v : Option Half} {check : BitVec 7} {p : List Byte}
    (h : ((readRx .expander n s).rxRec n).st = .live ∨ ((readRx .expander n s).rxRec n).st = .suspect →
      headerCheck (deltaHeader ((readRx .expander n s).rxRec n).c d q v p) ≠ check) :
    ∃ u, deltaTransaction n d q v check p s = (u, none) ∧
      Refuses n ((readRx .expander n s).rxRec n) (readRx .expander n s) u := by
  by_cases hst : ((readRx .expander n s).rxRec n).st = .live ∨ ((readRx .expander n s).rxRec n).st = .suspect
  · exact ⟨_, (if_pos hst).trans (if_neg (h hst)), .checkFails hst⟩
  · exact ⟨_, if_neg hst, .noContext hst⟩

/-- A BRIEF frame that is refused. -/
theorem briefTransaction_refused {check : BitVec 7} {p : List Byte}
    (h : ((readRx .expander n s).rxRec n).st = .live ∨ ((readRx .expander n s).rxRec n).st = .suspect →
      ∀ j, 1 ≤ j → j ≤ (readRx .expander n s).cfg.repairDepth.toNat + 1 →
        headerCheck (briefHeader ((readRx .expander n s).rxRec n).c j p) ≠ check) :
    ∃ u, briefTransaction n check p s = (u, none) ∧
      Refuses n ((readRx .expander n s).rxRec n) (readRx .expander n s) u := by
  by_cases hst : ((readRx .expander n s).rxRec n).st = .live ∨ ((readRx .expander n s).rxRec n).st = .suspect
  · exact ⟨_, briefTransaction_of_none hst (firstHypothesis_none fun j hj hlt => h hst j hj
      (Nat.le_of_lt_succ (hlt.trans_eq (Nat.add_comm 1 _)))), .checkFails hst⟩
  · exact ⟨_, if_neg hst, .noContext hst⟩

/-- The frames that are refused: no header tried has the received check. -/
theorem exec_refused {i : Instr} {check : BitVec 7} {p : List Byte} {r : Record RxState} {absent : Prop}
    (hholds : s.holds .expander = true) (habsent : (r.st = .live ∨ r.st = .suspect) → ¬ absent)
    (hr : (readRx .expander n s).rxRec n = r)
    (h : (i = .expandDelta ∧ ∃ d q v, s.exp = .busy k (.delta n d q v check p) ∧
        (absent ∨ headerCheck (deltaHeader r.c d q v p) ≠ check)) ∨
      (i = .expandBrief ∧ s.exp = .busy k (.brief n check p) ∧
        (absent ∨ ∀ j : Nat, 1 ≤ j → j ≤ s.cfg.repairDepth.toNat + 1 → headerCheck (briefHeader r.c j p) ≠ check))) :
    ∃ x, exec i s = .next (endExpTransaction (some k) x.2 x.1) ∧ ∃ u, x = (u, none) ∧ Refuses n r (readRx .expander n s) u := by
  obtain rfl := hr
  rcases h with ⟨rfl, d, q, v, hexp, hor⟩ | ⟨rfl, hexp, hor⟩
  · exact ⟨_, exec_expandDelta (expTransaction_of_busy hholds hexp), deltaTransaction_refused fun hst =>
      hor.resolve_left (habsent hst)⟩
  · have hcfg : (readRx .expander n s).cfg = s.cfg := (readRx_onlyChanges .expander n s).same .cfg rfl
    exact ⟨_, exec_expandBrief (expTransaction_of_busy hholds hexp), briefTransaction_refused fun hst =>
      hcfg.symm ▸ hor.resolve_left (habsent hst)⟩

theorem exists_refused_of_exec {i : Instr} {r : Record RxState} {v : State} (hread : OnlyChanges [.store, .stats, .stat] s v)
    (h : ∃ x, exec i s = .next (endExpTransaction (some k) x.2 x.1) ∧ ∃ u, x = (u, none) ∧ Refuses n r v u) :
    ∃ t, exec i s = .next t ∧ t.exp = .idle ∧ t.lrx = { s.lrx with bufs := s.lrx.bufs.set k .empty } ∧
      t.arb = v.arb.ended v.store ∧ OnlyChanges [.store, .stats, .stat, .fbq, .exp, .lrx, .arb] s t ∧
      FrameRefused n r s.cfg.failLimit s.fbq v t :=
  have ⟨_, hexec, _, hx, hrefused⟩ := h
  exists_refused hread hexec hx hrefused

end

/-- Settles O22: without a matching header, or without a context to try it on, a frame is refused. -/
theorem compressedFrameRefused : Obligations.CompressedFrameRefused :=
  fun s _ n _ _ _ hholds hcases =>
    exists_refused_of_exec (readRx_onlyChanges .expander n s) (exec_refused hholds RxState.not_absent rfl hcases)

end Sys2Proof.Machine

/-! PROOFS. Takes: the row, and a context opened for a message that no context matches. -/

namespace Sys2Proof.Machine

section
variable {s u v : State} {m : Message} {f : TxFormat} {n : Ctx} {i : Fin 4} {b : BitVec 6}

/-! ## The row of a take (05 R85, R97) -/

/-- A take that leaves `u` and builds a frame hands it to the transmitter. -/
theorem exists_taken {kind : FrameKind} {nn : Option Ctx} {data : List Byte} (hholds : s.holds .compressor = true)
    (hwork : s.comp.work = .taking m f .send) (htake : takeMessage m s = (u, ⟨kind, nn, data⟩))
    (hu : OnlyChanges [.store, .stats, .stat] s u) {Q : State → Prop}
    (hQ : ∀ t : State, t.store = u.store → t.stat = u.stat → t.stats = u.stats → TakeSends f kind nn data s t → Q t) :
    ∃ t, exec .take s = .next t ∧ Q t := by
  have hcomp : u.comp = s.comp := hu.same .comp rfl
  have hltx : u.ltx = s.ltx := hu.same .ltx rfl
  have harb : u.arb = s.arb := hu.same .arb rfl
  have hend : endTake f .send ⟨kind, nn, data⟩ u = ((u.setArb (u.arb.ended u.store)).setComp { u.comp with work := .sending }).setLtx
    { u.ltx with inFlight := some ⟨kind, nn⟩, rest := lineFrame f data } :=
      congrArg (fun v : State => (v.setComp { v.comp with work := .sending }).setLtx
        { v.ltx with inFlight := some ⟨kind, nn⟩, rest := lineFrame f data }) (endTransaction_eq u)
  refine exists_next rfl (u := _) ?_ (hQ (((u.setArb (u.arb.ended u.store)).setComp { u.comp with work := .sending }).setLtx
    { u.ltx with inFlight := some ⟨kind, nn⟩, rest := lineFrame f data }) rfl rfl rfl ⟨?_, ?_, ?_, hu.andThen (onlyChanges_of_eq [.comp, .ltx, .arb] rfl) rfl⟩)
  · rw [hwork]
    refine (if_pos ⟨hholds, TakeFate.noConfusion⟩).trans ?_
    rw [takeGranted, htake]
    exact hend
  · exact congrArg (fun c : Compressor => { c with work := .sending }) hcomp
  · exact congrArg (fun l : LineTx => { l with inFlight := some ⟨kind, nn⟩, rest := lineFrame f data }) hltx
  · exact congrArg (Arbiter.ended u.store) harb

theorem takeMessage_of_found (h : (search .compressor (Header.ofBytes m).key s).2 = some n) :
    takeMessage m s = sendFrom n m (search .compressor (Header.ofBytes m).key s).1 := by
  unfold takeMessage
  rw [← Prod.mk.eta (p := search .compressor (Header.ofBytes m).key s), h]

theorem takeMessage_of_none (h : (search .compressor (Header.ofBytes m).key s).2 = none) :
    takeMessage m s = noMatch m (search .compressor (Header.ofBytes m).key s).1 := by
  unfold takeMessage
  rw [← Prod.mk.eta (p := search .compressor (Header.ofBytes m).key s), h]

/-! ## A context opened or evicted (05 R88, R92, R95) -/

theorem openedState_eq (o : BitVec 3) :
    (if o ≠ 0 ∧ o ≤ 1 then TxState.opened else .opening) = if o = 1 then .opened else .opening := by
  revert o
  decide

theorem stateAfterFull_fresh (c : Settings) : stateAfterFull c.optimistic .opening 1 = openedState c := openedState_eq c.optimistic

theorem satInc_zero_count : satInc (0 : BitVec 3) = 1 := by decide
theorem satInc_zero_uses : satInc (0 : Half) = 1 := by decide
theorem bytes16_zero : bytes16 0 = [0, 0] := by decide

theorem openContext_eq (n : Ctx) (i : Fin 4) (m : Message) (v : State) : openContext n i m v =
    ((v.setStore (v.store.installed n (openedState v.cfg) (openedContents (Header.ofBytes m)) (Header.ofBytes m).key.bucket i
      (Header.ofBytes m).key.signature)).setStat (v.stat.seesTx n (openedState v.cfg) (openedContents (Header.ofBytes m))),
      ⟨.full, some n, 0x01#8 :: n :: (m.take 14 ++ [0, 0] ++ m.drop 14)⟩) := by
  rw [← writeTx_fillSlot_eq, ← stateAfterFull_fresh]
  exact congrArg₂ Prod.mk (congrArg₂ (fun (a : BitVec 3) (b : Half) => writeTx n (stateAfterFull v.cfg.optimistic .opening a)
    { openedContents (Header.ofBytes m) with tally := a, uses := b }
    (fillSlot n (Header.ofBytes m).key.bucket i (Header.ofBytes m).key.signature v)) satInc_zero_count satInc_zero_uses)
    (congrArg (fun l => Built.mk .full (some n) (0x01#8 :: n :: (m.take 14 ++ l ++ m.drop 14))) bytes16_zero)

/-! ## What is possible (05 R88, R93) -/

theorem opening_of_opensAt (h : OpensAt s b n i) : s.opening b = some (n, i) := by
  obtain ⟨hfree, hlowest, hempty, hfirst⟩ := h
  rw [State.opening, lowestFree_eq hfree hlowest, emptySlot_eq hempty hfirst]

theorem noMatch_of_opening {p : Ctx × Fin 4} (h : s.store.st ≠ .degraded) (hp : s.opening (Header.ofBytes m).key.bucket = some p) :
    noMatch m s = openContext p.1 p.2 m s := by
  refine (if_neg h).trans ?_
  rw [hp]

end

/-- Settles O29: the lowest free number and the lowest empty slot are taken. -/
theorem takeOpensContext : Obligations.TakeOpensContext := by
  intro s m f n i hholds hwork h s1 hnone hready hopens
  have hwithin : OnlyChanges [.store, .stats, .stat] s s1 := search_onlyChanges _ _ _
  have htake : takeMessage m s = noMatch m s1 := takeMessage_of_none hnone
  clear_value s1
  have hcfg : s1.cfg = s.cfg := hwithin.same .cfg rfl
  exact exists_taken hholds hwork (htake.trans ((noMatch_of_opening (hready ▸ StoreState.noConfusion) (opening_of_opensAt hopens)).trans (openContext_eq ..)))
    (written_within hwithin _ _) fun t hstore hstat hstats hsends => ⟨⟨hstore, hstat⟩, hstats, hsends⟩

end Sys2Proof.Machine

/-! PROOFS. Takes that no context matches: the victim of an eviction, and messages that go RAW. -/

namespace Sys2Proof.Machine

section
variable {s u v : State} {m : Message} {n w : Ctx} {i j : Fin 4} {b : BitVec 6} {best : Option (Fin 4 × Ctx)}

/-! ## The victim (05 R94) -/

theorem betterVictim_of_empty (h : s.slotAt b j = none) : s.betterVictim b best j = best := by
  rw [State.betterVictim, h]

theorem betterVictim_of_slot {sl : Slot} (h : s.slotAt b j = some sl) : s.betterVictim b best j =
    if (s.txRec sl.n).c.pinned then best
    else match best with
      | none => some (j, sl.n)
      | some v => if (s.txRec v.2).c.age < (s.txRec sl.n).c.age then some (j, sl.n) else best := by
  rw [State.betterVictim, h] <;> rfl

theorem betterVictim_of_pinned {sl : Slot} (h : s.slotAt b j = some sl) (hpinned : (s.txRec sl.n).c.pinned = true) :
    s.betterVictim b best j = best := (betterVictim_of_slot h).trans (if_pos hpinned)

/-- Once found, the victim stays. -/
theorem IsVictim.stays (h : IsVictim s b i n) (is : List (Fin 4)) :
    is.foldl (s.betterVictim b) (some (i, n)) = some (i, n) := by
  induction is with
  | nil => rfl
  | cons j is ih =>
    refine (congrArg (is.foldl (s.betterVictim b)) ?_).trans ih
    cases hj : s.slotAt b j with
    | none => exact betterVictim_of_empty hj
    | some sl =>
      cases hpinned : (s.txRec sl.n).c.pinned with
      | true => exact betterVictim_of_pinned hj hpinned
      | false =>
        exact (betterVictim_of_slot hj).trans ((if_neg (ne_true_of_eq_false hpinned)).trans
          (if_neg (BitVec.not_lt.mpr (h.2.2 j sl hj hpinned).1)))

/-- The slots below the victim's find none, or one of less age. -/
theorem IsVictim.found (h : IsVictim s b i n) {is : List (Fin 4)} (his : ∀ j ∈ is, j < i) (post : List (Fin 4))
    (hbest : ∀ p, best = some p → (s.txRec p.2).c.age < (s.txRec n).c.age) :
    (is ++ i :: post).foldl (s.betterVictim b) best = some (i, n) := by
  induction is generalizing best with
  | nil =>
    refine (congrArg (post.foldl (s.betterVictim b)) ?_).trans (h.stays post)
    obtain ⟨⟨sl, hsl, rfl⟩, hpinned, -⟩ := h
    refine (betterVictim_of_slot hsl).trans ((if_neg (ne_true_of_eq_false hpinned)).trans ?_)
    cases best with
    | none => rfl
    | some p => exact if_pos (hbest p rfl)
  | cons j is ih =>
    refine ih (fun k hk => his k (List.mem_cons_of_mem _ hk)) fun p hp => ?_
    cases hj : s.slotAt b j with
    | none => exact hbest p ((betterVictim_of_empty hj).symm.trans hp)
    | some sl =>
      cases hpinned : (s.txRec sl.n).c.pinned with
      | true => exact hbest p ((betterVictim_of_pinned hj hpinned).symm.trans hp)
      | false =>
        have hold := (h.2.2 j sl hj hpinned).2 (his j List.mem_cons_self)
        rw [betterVictim_of_slot hj, if_neg (ne_true_of_eq_false hpinned)] at hp
        cases best with
        | none => exact Option.some.inj hp ▸ hold
        | some q =>
          exact ite_keeps (P := fun o => o = some p → (s.txRec p.2).c.age < (s.txRec n).c.age)
            (fun _ hq => Option.some.inj hq ▸ hold) (fun _ => hbest p) hp

theorem slots_below : ∀ i : Fin 4, ([0, 1, 2, 3] : List (Fin 4)) = [0, 1, 2, 3].take i ++ i :: [0, 1, 2, 3].drop (i + 1) ∧
    ∀ j ∈ ([0, 1, 2, 3] : List (Fin 4)).take i, j < i := by
  decide

theorem IsVictim.eq_victim (h : IsVictim s b i n) : s.victim b = some (i, n) := by
  unfold State.victim
  rw [(slots_below i).1]
  exact h.found (slots_below i).2 _ nofun

theorem victim_none (h : ∀ j sl, s.slotAt b j = some sl → (s.txRec sl.n).c.pinned = true) : s.victim b = none := by
  have hstep : ∀ j, s.betterVictim b none j = none := fun j => by
    cases hj : s.slotAt b j with
    | none => exact betterVictim_of_empty hj
    | some sl => exact betterVictim_of_pinned hj (h j sl hj)
  show s.betterVictim b (s.betterVictim b (s.betterVictim b (s.betterVictim b none 0) 1) 2) 3 = none
  rw [hstep, hstep, hstep, hstep]

/-! ## What is possible (05 R93) -/

theorem opening_of_noOpening (h : NoOpening s b) : s.opening b = none := by
  rcases h with h | h
  · have hnone : s.lowestFree = none := by
      cases hfree : s.lowestFree with
      | none => rfl
      | some n => exact absurd ((h n).symm.trans (lowestFree_isFree hfree)) Bool.false_ne_true
    rw [State.opening, hnone]
  · rw [State.opening, emptySlot_none h]
    induction s.lowestFree <;> rfl

theorem noMatch_of_degraded (h : s.store.st = .degraded) : noMatch m s = sendRaw m s := if_pos h

theorem noMatch_of_noOpening (h : s.store.st ≠ .degraded) (hnone : NoOpening s (Header.ofBytes m).key.bucket) :
    noMatch m s = afterCandidates m (readCandidates (Header.ofBytes m).key [0, 1, 2, 3] s) := by
  refine (if_neg h).trans ?_
  rw [opening_of_noOpening hnone]

theorem afterCandidates_of_degraded (h : s.store.st = .degraded) : afterCandidates m s = sendRaw m s := if_pos h

theorem afterCandidates_of_opening {p : Ctx × Fin 4} (h : s.store.st ≠ .degraded)
    (hp : s.opening (Header.ofBytes m).key.bucket = some p) : afterCandidates m s = openContext p.1 p.2 m s := by
  refine (if_neg h).trans ?_
  rw [hp]

theorem afterCandidates_of_victim (h : s.store.st ≠ .degraded) (hnone : NoOpening s (Header.ofBytes m).key.bucket)
    (hv : IsVictim s (Header.ofBytes m).key.bucket i n) : afterCandidates m s = evict i n m s := by
  refine (if_neg h).trans ?_
  rw [opening_of_noOpening hnone, hv.eq_victim]

theorem afterCandidates_of_pinned (h : s.store.st ≠ .degraded) (hnone : NoOpening s (Header.ofBytes m).key.bucket)
    (hpinned : ∀ j sl, s.slotAt (Header.ofBytes m).key.bucket j = some sl → (s.txRec sl.n).c.pinned = true) :
    afterCandidates m s = sendRaw m s := by
  refine (if_neg h).trans ?_
  rw [opening_of_noOpening hnone, victim_none hpinned]

theorem readCandidates_of_empty {k : Key} (is : List (Fin 4)) (h : s.slotAt k.bucket i = none) :
    readCandidates k (i :: is) s = readCandidates k is s := by
  rw [readCandidates, h]

theorem readCandidates_of_slot {k : Key} (is : List (Fin 4)) {sl : Slot} (h : s.slotAt k.bucket i = some sl) :
    readCandidates k (i :: is) s = readCandidates k is (if sl.sig = k.signature then s else readTx .compressor sl.n s) := by
  rw [readCandidates, h]

theorem evict_eq (i : Fin 4) (w : Ctx) (m : Message) (v : State) : evict i w m v =
    (((v.setStore { v.store.withTx w (openedState v.cfg) (openedContents (Header.ofBytes m)) with
      index := v.store.index.set (Header.ofBytes m).key.bucket.toNat
        ((v.store.index[(Header.ofBytes m).key.bucket.toNat]'(Header.ofBytes m).key.bucket.isLt).set i
          (some ⟨w, (Header.ofBytes m).key.signature⟩)) (Header.ofBytes m).key.bucket.isLt }).setStat
      (v.stat.seesTx w (openedState v.cfg) (openedContents (Header.ofBytes m)))).setStats (v.stats.counted [.txEvict]),
      ⟨.full, some w, 0x01#8 :: w :: (m.take 14 ++ [0, 0] ++ m.drop 14)⟩) := by
  rw [← stateAfterFull_fresh]
  exact congrArg₂ Prod.mk ((congrArg₂ (fun (a : BitVec 3) (b : Half) => writeTx w (stateAfterFull v.cfg.optimistic .opening a)
    { openedContents (Header.ofBytes m) with tally := a, uses := b }
    (raise .txEvict (setSlot (Header.ofBytes m).key.bucket i (some ⟨w, (Header.ofBytes m).key.signature⟩) v)))
    satInc_zero_count satInc_zero_uses).trans (writeTx_eq ..))
    (congrArg (fun l => Built.mk .full (some w) (0x01#8 :: w :: (m.take 14 ++ l ++ m.drop 14))) bytes16_zero)

/-- A message that goes RAW from the state `v`. -/
theorem exists_raw {f : TxFormat} (hholds : s.holds .compressor = true) (hwork : s.comp.work = .taking m f .send)
    (htake : takeMessage m s = sendRaw m v) (hv : OnlyChanges [.store, .stats, .stat] s v) :
    ∃ t, exec .take s = .next t ∧ t.store = v.store ∧ t.stat = v.stat ∧ t.stats = v.stats.counted [.txRawTablefull] ∧
      TakeSends f .raw none (0x00#8 :: m) s t :=
  exists_taken (u := raise .txRawTablefull v) hholds hwork htake (hv.andThen (onlyChanges_of_eq [.stats] rfl) rfl)
    fun _ hstore hstat hstats hsends => ⟨hstore, hstat, hstats, hsends⟩

end

/-- Settles O31, by what is possible before and after the candidate reads. -/
theorem takeEvictsOrGoesRaw : Obligations.TakeEvictsOrGoesRaw := by
  refine ⟨fun k s => ⟨rfl, fun i is => ⟨readCandidates_of_empty is, fun sl hsl => ⟨fun hsig => ?same, fun hsig => ?other⟩⟩⟩,
    fun s m f hholds hwork => ?take⟩
  case same => exact (readCandidates_of_slot is hsl).trans (congrArg _ (if_pos hsig))
  case other => exact (readCandidates_of_slot is hsl).trans (congrArg _ (if_neg hsig))
  case take =>
    intro h b s1 s2 hnone
    have htake : takeMessage m s = noMatch m s1 := takeMessage_of_none hnone
    have hfirst : OnlyChanges [.store, .stats, .stat] s s1 := search_onlyChanges _ _ _
    have hread : OnlyChanges [.store, .stats, .stat] s1 s2 := onlyChanges_of_frame _ (readCandidates_frame ..)
    have hafter : s1.store.st ≠ .degraded → NoOpening s1 b → takeMessage m s = afterCandidates m s2 :=
      fun hready hfull => htake.trans (noMatch_of_noOpening hready hfull)
    clear_value s2
    clear_value s1
    have hwithin := hfirst.andThen hread (ds := [.store, .stats, .stat]) rfl
    have hcfg : s2.cfg = s.cfg := hwithin.same .cfg rfl
    refine ⟨fun hdeg => exists_raw hholds hwork (htake.trans (noMatch_of_degraded hdeg)) hfirst, fun hready hfull =>
      ⟨fun hdeg => ?raw, fun n i hnot hopens => ?opened, fun i v hnot hnone hv => ?evicted, fun hnot hnone hpinned => ?pinned⟩⟩
    case raw =>
      exact exists_raw hholds hwork ((hafter hready hfull).trans (afterCandidates_of_degraded hdeg)) hwithin
    case opened =>
      exact exists_taken hholds hwork ((hafter hready hfull).trans ((afterCandidates_of_opening hnot (opening_of_opensAt hopens)).trans
        (openContext_eq ..))) (written_within hwithin _ _) fun t hstore hstat hstats hsends => ⟨⟨hstore, hstat⟩, hstats, hsends⟩
    case evicted =>
      exact exists_taken hholds hwork ((hafter hready hfull).trans ((afterCandidates_of_victim hnot hnone hv).trans (evict_eq ..)))
        (hwithin.andThen (onlyChanges_of_eq [.store, .stats, .stat] rfl) rfl)
        fun t hstore hstat hstats hsends => ⟨hcfg ▸ hstore, hcfg ▸ hstat, hstats, hsends⟩
    case pinned =>
      exact exists_raw hholds hwork ((hafter hready hfull).trans (afterCandidates_of_pinned hnot hnone hpinned)) hwithin

end Sys2Proof.Machine

/-! PROOFS. Frames abandoned while their take runs, and the abort request. -/

namespace Sys2Proof.Machine

section
variable {s : State} {m : Message} {f : TxFormat} {n : Ctx}

theorem exec_abortRequest (hholds : s.holds .compressor = true) (hwork : s.comp.work = .aborting n) :
    exec .abortRequest s = .next (abortGranted n s) := by
  refine congrArg Host.Outcome.next ?_
  rw [hwork]
  exact if_pos hholds

theorem exec_take_abandoned (hholds : s.holds .compressor = true) (hwork : s.comp.work = .taking m f .abandon) :
    exec .take s = .next (answerAbandoned (takeMessage m s).2.n (countAborted (endTransaction (takeMessage m s).1))) := by
  refine congrArg Host.Outcome.next ?_
  rw [hwork]
  exact if_pos ⟨hholds, TakeFate.noConfusion⟩

theorem endTransaction_within (u : State) : OnlyChanges [.arb] u (endTransaction u) := onlyChanges_of_frame _ (endTransaction_frame u)

/-- What a take changes up to the end of its transaction. -/
theorem takeEnded_within (m : Message) (s : State) :
    OnlyChanges [.store, .stats, .stat, .arb] s (endTransaction (takeMessage m s).1) :=
  (onlyChanges_of_frame [.store, .stats, .stat] (takeMessage_frame m s)).andThen (endTransaction_within _) rfl

/-! The end of the abort request's transaction. -/

theorem endAbort_within (u : State) : OnlyChanges [.comp, .ltx, .arb] u (endTransaction (answerAbandoned none u)) :=
  (onlyChanges_of_frame [.comp, .ltx, .arb] (answerAbandoned_frame none u)).andThen (endTransaction_within _) rfl

theorem endAbort_comp (u : State) : (endTransaction (answerAbandoned none u)).comp = { u.comp with work := .idle } :=
  (endTransaction_within _).same .comp rfl

theorem endAbort_ltx (u : State) : (endTransaction (answerAbandoned none u)).ltx =
    { u.ltx with st := if u.ltx.enable then .idle else .disabled, inFlight := none, rest := [] } :=
  (endTransaction_within _).same .ltx rfl

theorem endAbort_arb (u : State) : (endTransaction (answerAbandoned none u)).arb = u.arb.ended u.store :=
  congrArg State.arb (endTransaction_eq (answerAbandoned none u))

theorem makeRefreshing_within (n : Ctx) (s : State) : OnlyChanges [.store, .stat] s (makeRefreshing n s) :=
  onlyChanges_of_frame _ (makeRefreshing_frame n s)

/-- What the abort request changes before its transaction ends. -/
theorem abortWork_within (n : Ctx) (s : State) :
    OnlyChanges [.store, .stats, .stat] s (makeRefreshing n (readTx .compressor n s)) :=
  (readTx_onlyChanges _ n s).andThen (makeRefreshing_within n _) rfl

end

/-- Settles O34: an abandoned take keeps what it did, and the abort request makes its context REFRESHING. -/
theorem abandonedFrameIsAnswered : Obligations.AbandonedFrameIsAnswered := by
  refine ⟨fun s m f hholds hwork => ?take, fun s n hholds hwork => ?abort⟩
  case take =>
    intro r
    refine exists_next (exec_take_abandoned hholds hwork) rfl ?_
    intro t
    refine ⟨((answered_within _ _).same .store rfl).trans ((endTransaction_within _).same .store rfl),
      (answered_stats ..).trans (congrArg (Stats.counted [.txAborted] ·) ((endTransaction_within _).same .stats rfl)),
      (answered_stat ..).trans (congrArg (StatusUnit.latched [.txAborted] ·) ((endTransaction_within _).same .stat rfl)),
      (takeEnded_within m s).andThen (answered_within _ _) rfl, fun n hn => ⟨?_, ?_, ?_⟩, fun hn => ⟨?_, ?_, ?_⟩⟩
    · exact (answered_some hn).1.trans (congrArg (fun c : Compressor => { c with work := .aborting n }) ((takeEnded_within m s).same .comp rfl))
    · exact (answered_some hn).2.2.trans (congrArg (fun l : LineTx => { l with inFlight := none, rest := [], gap := 0 })
        ((takeEnded_within m s).same .ltx rfl))
    · exact (answered_some hn).2.1.trans (congrArg (fun v : State => v.arb.asked v.store .compressor) (endTransaction_eq r.1))
    · exact (answered_none hn).1.trans (congrArg (fun c : Compressor => { c with work := .idle }) ((takeEnded_within m s).same .comp rfl))
    · exact (answered_none hn).2.1.trans (congrArg State.arb (endTransaction_eq r.1))
    · exact (answered_none hn).2.2.trans (congrArg (fun l : LineTx =>
        { l with st := if l.enable then .idle else .disabled, inFlight := none, rest := [], gap := 0 }) ((takeEnded_within m s).same .ltx rfl))
  case abort =>
    intro s1 r c
    refine exists_next (exec_abortRequest hholds hwork) rfl ?_
    intro t
    refine ⟨(endAbort_comp _).trans (congrArg (fun c : Compressor => { c with work := .idle }) ((abortWork_within n s).same .comp rfl)),
      ((endAbort_within _).same .stats rfl).trans ((makeRefreshing_within n s1).same .stats rfl),
      (endAbort_ltx _).trans (congrArg (fun l : LineTx =>
        { l with st := if l.enable then .idle else .disabled, inFlight := none, rest := [] }) ((abortWork_within n s).same .ltx rfl)),
      (endAbort_arb _).trans ((makeRefreshing_ended n s1 _).trans
        (congrArg (Arbiter.ended s1.store ·) ((makeRefreshing_within n s1).same .arb rfl))),
      (abortWork_within n s).andThen (endAbort_within _) rfl, fun h => ?_, fun hopened hopening => ?_⟩
    · have hleft := (makeRefreshing_of_opened (s := s1) rfl h).trans (writeTx_eq ..)
      exact ⟨((endAbort_within _).same .store rfl).trans (congrArg State.store hleft :),
        ((endAbort_within _).same .stat rfl).trans (congrArg State.stat hleft :)⟩
    · have hleft := makeRefreshing_of_not_opened (s := s1) (n := n) rfl (not_or.mpr ⟨hopened, hopening⟩)
      exact ⟨((endAbort_within _).same .store rfl).trans (congrArg State.store hleft),
        ((endAbort_within _).same .stat rfl).trans (congrArg State.stat hleft)⟩

end Sys2Proof.Machine

/-! PROOFS. What the Expander does with a staged frame. -/

namespace Sys2Proof.Machine

section
variable {s : State} {k : Fin 2} {v : Verdict} {w : ExpWork} {p : List Byte} {l : LineRx} {x : StagingBuffer}

/-- The line receiver with the oldest staged frame taken out of the order and its buffer `k` set. -/
noncomputable def LineRx.taken (l : LineRx) (k : Fin 2) (rest : List (Fin 2)) (x : StagingBuffer) : LineRx :=
  { l with order := rest, bufs := l.bufs.set k.val x k.isLt }

theorem expanderTake_eq {rest : List (Fin 2)} (hidle : s.exp = .idle) (horder : s.lrx.order = k :: rest) : expanderTake s =
    handleVerdict k (validate s.banks (s.lrx.bufs[k.val]'k.isLt).data)
      (s.setLrx (s.lrx.taken k rest { s.lrx.bufs[k.val]'k.isLt with st := .inWork })) := by
  unfold expanderTake
  rw [hidle, horder]
  rfl

theorem releaseBuf_taken {u : State} {rest : List (Fin 2)} (hu : u.lrx = l.taken k rest x) :
    releaseBuf k u = u.setLrx (l.taken k rest .empty) :=
  congrArg (State.setLrx · u) ((congrArg (fun l : LineRx => { l with bufs := l.bufs.set k.val .empty k.isLt }) hu).trans
    (congrArg (fun b => { l with order := rest, bufs := b }) (Vector.set_set ..)))

section
variable {rest : List (Fin 2)} (hs : s.lrx = l.taken k rest x)
include hs

theorem handleVerdict_malformed (hv : v = .malformed) :
    handleVerdict k v s = (raise .rxMalformed s).setLrx (l.taken k rest .empty) :=
  (congrArg (handleVerdict k · s) hv).trans (releaseBuf_taken hs)

theorem handleVerdict_codeError (hv : v = .codeError) :
    handleVerdict k v s = (raise .codeErr s).setLrx (l.taken k rest .empty) :=
  (congrArg (handleVerdict k · s) hv).trans (releaseBuf_taken hs)

theorem handleVerdict_raw {h : Header} (hv : v = .raw h p) (hroom : s.host.rxBytes + 4 * ((18 + p.length + 3) / 4) ≤ 4096) :
    handleVerdict k v s = (raise .expRaw (pushEntry (plainEntry .raw 0 h p) s)).setLrx (l.taken k rest .empty) :=
  (congrArg (handleVerdict k · s) hv).trans ((if_pos (decide_eq_true hroom)).trans (releaseBuf_taken hs))

theorem dropFrame_taken : dropFrame k s = (markLost (raise .rxFifoDrop s)).setLrx (l.taken k rest .empty) := releaseBuf_taken hs

end

theorem startWork_eq (k : Fin 2) (w : ExpWork) (s : State) :
    startWork k w s = (s.setExp (.busy k w)).setArb (s.arb.asked s.store .expander) := request_eq _ _

theorem handleVerdict_feedback {e : FbEntry} {es : List FbEntry} (hv : v = .work (.feedback e es)) : handleVerdict k v s =
    ((raise .fbReceived s).setExp (.busy k (.feedback e es))).setArb (s.arb.asked s.store .expander) :=
  (congrArg (handleVerdict k · s) hv).trans (startWork_eq ..)

theorem handleVerdict_message (hv : v = .work w) (hlen : w.payloadLength = some p.length) : handleVerdict k v s =
    if s.rxRoom p.length then startWork k w s else dropFrame k s := by
  refine (congrArg (handleVerdict k · s) hv).trans ?_
  unfold handleVerdict
  dsimp only
  rw [hlen]

theorem handleVerdict_started (hv : v = .work w) (hlen : w.payloadLength = some p.length)
    (hroom : s.host.rxBytes + 4 * ((18 + p.length + 3) / 4) ≤ 4096) :
    handleVerdict k v s = (s.setExp (.busy k w)).setArb (s.arb.asked s.store .expander) :=
  (handleVerdict_message hv hlen).trans ((if_pos (decide_eq_true hroom)).trans (startWork_eq ..))

theorem handleVerdict_dropped (hv : (∃ h, v = .raw h p) ∨ ∃ w, v = .work w ∧ w.payloadLength = some p.length)
    (hfull : ¬ s.host.rxBytes + 4 * ((18 + p.length + 3) / 4) ≤ 4096) : handleVerdict k v s = dropFrame k s := by
  have hroom : ¬ s.rxRoom p.length = true := fun h => hfull (of_decide_eq_true h)
  refine hv.elim (Exists.rec fun h hv => ?_) (Exists.rec fun w hw => ?_)
  · exact (congrArg (handleVerdict k · s) hv).trans (if_neg hroom)
  · exact (handleVerdict_message hw.1 hw.2).trans (if_neg hroom)

/-- A change of the state between two changes of the line receiver. -/
theorem OnlyChanges.between {bs ds : List Block} {x y : LineRx} {u : State} (hu : OnlyChanges bs (s.setLrx x) u)
    (hsub : ([Block.lrx] ++ bs ++ [Block.lrx]).all (ds.contains ·) = true) : OnlyChanges ds s (u.setLrx y) :=
  OnlyChanges.mono ((OnlyChanges.trans (onlyChanges_of_eq [.lrx] rfl) hu).trans (onlyChanges_of_eq [.lrx] rfl)) hsub

end

/-- Settles O19: one case for each thing that the Expander does with a staged frame. -/
theorem stagedFrameIsTaken : Obligations.StagedFrameIsTaken := by
  intro s k rest hidle horder data freed kept room
  refine exists_next (t := handleVerdict k (validate s.banks data) (s.setLrx kept)) rfl (expanderTake_eq hidle horder)
    ⟨fun hv => ?_, fun hv => ?_, fun h p hv hroom => ?_, fun e es hv => ?_, fun w p hv hlen hroom => ?_, fun p hv hroom => ?_⟩
  · rw [handleVerdict_malformed (s := s.setLrx kept) (l := s.lrx) rfl hv]
    exact ⟨rfl, rfl, (onlyChanges_of_frame [.stats] (raise_frame ..)).between rfl⟩
  · rw [handleVerdict_codeError (s := s.setLrx kept) (l := s.lrx) rfl hv]
    exact ⟨rfl, rfl, (onlyChanges_of_frame [.stats] (raise_frame ..)).between rfl⟩
  · rw [handleVerdict_raw (s := s.setLrx kept) (l := s.lrx) rfl hv hroom]
    exact ⟨rfl, rfl, rfl, ((onlyChanges_of_frame [.host] (pushEntry_frame ..)).trans
      (onlyChanges_of_frame [.stats] (raise_frame ..))).between rfl⟩
  · rw [handleVerdict_feedback (s := s.setLrx kept) hv]
    have hcounted := OnlyChanges.trans (onlyChanges_of_eq (s := s) (t := s.setLrx kept) [.lrx] rfl)
      (onlyChanges_of_frame [.stats] (raise_frame .fbReceived _))
    exact ⟨rfl, rfl, rfl, rfl, hcounted.andThen (onlyChanges_of_eq [.exp, .arb] rfl) rfl⟩
  · rw [handleVerdict_started (s := s.setLrx kept) hv hlen hroom]
    have hkept := onlyChanges_of_eq (s := s) (t := s.setLrx kept) [.lrx] rfl
    exact ⟨rfl, rfl, rfl, hkept.andThen (onlyChanges_of_eq [.exp, .arb] rfl) rfl⟩
  · rw [handleVerdict_dropped (s := s.setLrx kept) hv hroom, dropFrame_taken (s := s.setLrx kept) (l := s.lrx) rfl]
    exact ⟨rfl, rfl, rfl, rfl, ((onlyChanges_of_frame [.stats] (raise_frame ..)).trans
      (onlyChanges_of_frame [.host, .stat] (markLost_frame ..))).between rfl⟩

end Sys2Proof.Machine

/-! PROOFS. The end of the Expander's work: entries written, frames abandoned by a link reset, granted takes discarded. -/

namespace Sys2Proof.Machine

section
variable {s u : State} {k : Fin 2} {w : ExpWork} {b : Option (Fin 2)} {e : FbEntry} {es : List FbEntry}

theorem exec_rxEntryWrite {e : RxEntry} (hexp : s.exp = .deliver k e) :
    exec .rxEntryWrite s = .next (releaseBuf k ((pushEntry e s).setExp .idle)) := by
  refine congrArg Host.Outcome.next ?_
  rw [hexp]
  rfl

/-! ## Transactions of abandoned frames (04 R65) -/

theorem expTransaction_of_abandoned (hholds : s.holds .expander = true) (hexp : s.exp = .abandonedRunning w) :
    s.expTransaction = some (none, w) := by
  refine (if_pos hholds).trans ?_
  rw [hexp]

/-- The row that does a frame's work. -/
noncomputable def ExpWork.row (w : ExpWork) : Instr := by
  induction w with
  | full => exact .expandFull
  | delta => exact .expandDelta
  | brief => exact .expandBrief
  | feedback e es =>
    induction e with | mk kind n
    induction kind with
    | ack => exact .ackApply
    | refresh => exact .refreshApply

theorem exec_row (hwork : s.expTransaction = some (b, w)) (hmessage : w.payloadLength.isSome = true) :
    exec w.row s = .next (endExpTransaction b (expanded w s).2 (expanded w s).1) := by
  induction w with
  | full => exact exec_expandFull hwork
  | delta => exact exec_expandDelta hwork
  | brief => exact exec_expandBrief hwork
  | feedback => exact (Bool.false_ne_true hmessage).elim

theorem expanded_within (w : ExpWork) (s : State) : OnlyChanges [.store, .fbq, .stats, .stat] s (expanded w s).1 := by
  induction w with
  | full n h stride p => exact onlyChanges_of_frame _ (fullTransaction_frame ..)
  | delta => exact onlyChanges_of_frame _ (deltaTransaction_frame ..)
  | brief => exact onlyChanges_of_frame _ (briefTransaction_frame ..)
  | feedback => exact .refl _ s

theorem row_of_eq {w' : ExpWork} {i i' : Instr} (hmessage : w'.payloadLength.isSome = true) (hrow : w'.row = i')
    (h : w = w' ∧ i = i') : w.payloadLength.isSome = true ∧ w.row = i := by
  rw [h.1, h.2]
  exact ⟨hmessage, hrow⟩

theorem row_of {i : Instr} : ((∃ n h stride p, w = .full n h stride p ∧ i = .expandFull) ∨
    (∃ n d r stride check p, w = .delta n d r stride check p ∧ i = .expandDelta) ∨
    (∃ n check p, w = .brief n check p ∧ i = .expandBrief)) → w.payloadLength.isSome = true ∧ w.row = i :=
  Or.rec (Exists.rec fun _ => Exists.rec fun _ => Exists.rec fun _ => Exists.rec fun _ => row_of_eq rfl rfl)
    (Or.rec (Exists.rec fun _ => Exists.rec fun _ => Exists.rec fun _ => Exists.rec fun _ => Exists.rec fun _ => Exists.rec fun _ =>
      row_of_eq rfl rfl) (Exists.rec fun _ => Exists.rec fun _ => Exists.rec fun _ => row_of_eq rfl rfl))

theorem endExpTransaction_abandoned (e : Option RxEntry) (u : State) :
    endExpTransaction none e u = (u.setExp .idle).setArb (u.arb.ended u.store) := endTransaction_eq _

/-! ## The Expander's state plays no part in an entry's work -/

theorem monitorTx_setExp (n : Ctx) (x : ExpState) (s : State) : monitorTx n (s.setExp x) = (monitorTx n s).setExp x := by
  unfold monitorTx
  rw [apply_ite (State.setExp x)]
  rfl

theorem writeTx_setExp (n : Ctx) (st : TxState) (c : Contents) (x : ExpState) (s : State) :
    writeTx n st c (s.setExp x) = (writeTx n st c s).setExp x :=
  monitorTx_setExp n x (s.setStore { s.store with tx := Table.put s.store.tx n ⟨st, c, []⟩ })

theorem dropSlot_setExp (n : Ctx) (x : ExpState) (s : State) : dropSlot n (s.setExp x) = (dropSlot n s).setExp x := by
  unfold dropSlot
  show (match s.refOf n with | none => _ | some r => _) = State.setExp x (match s.refOf n with | none => _ | some r => _)
  induction s.refOf n <;> rfl

theorem reportError_setExp (c : Capture) (x : ExpState) (s : State) :
    reportError c (s.setExp x) = (reportError c s).setExp x := by
  unfold reportError
  show (match s.store.capture with | none => _ | some h => _) = State.setExp x (match s.store.capture with | none => _ | some h => _)
  induction s.store.capture with
  | none => rfl
  | some h =>
    dsimp only
    rw [apply_ite (State.setExp x)]
    rfl

theorem noteCorrected_setExp (d : Dir) (n : Ctx) (q : Requester) (x : ExpState) (s : State) :
    noteCorrected d n q (s.setExp x) = (noteCorrected d n q s).setExp x :=
  reportError_setExp ⟨false, d, n, q⟩ x (setEvent .eccCorrected (raise .eccCorr s))

theorem degrade_setExp (x : ExpState) (s : State) : degrade (s.setExp x) = (degrade s).setExp x := by
  unfold degrade
  rw [apply_ite (State.setExp x)]
  rfl

theorem noteUncorrected_setExp (d : Dir) (n : Ctx) (q : Requester) (x : ExpState) (s : State) :
    noteUncorrected d n q (s.setExp x) = (noteUncorrected d n q s).setExp x := by
  have hjudged : ∀ v : State, (if (v.setExp x).mustDegrade then degrade (v.setExp x) else v.setExp x) =
      State.setExp x (if v.mustDegrade then degrade v else v) := fun v => by
    rw [apply_ite (State.setExp x), ← degrade_setExp]
    rfl
  exact (congrArg (reportError ⟨true, d, n, q⟩) (hjudged ((setEvent .eccUncorrected (raise .eccUncorr s)).setStore
    { s.store with uncorr := satInc s.store.uncorr }))).trans (reportError_setExp ..)

theorem match_flips {f : State → State} {v0 v1 v2 w0 w1 w2 : State} (flips : List Nat) (h0 : v0 = f w0) (h1 : v1 = f w1)
    (h2 : v2 = f w2) : (match flips with | [] => v0 | [_] => v1 | _ => v2) = f (match flips with | [] => w0 | [_] => w1 | _ => w2) := by
  induction flips with
  | nil => exact h0
  | cons _ rest _ => induction rest with
    | nil => exact h1
    | cons _ _ _ => exact h2

/-- The read and what it drops do not depend on the Expander's state. -/
theorem readTx_setExp (q : Requester) (n : Ctx) (x : ExpState) (s : State) :
    readTx q n (s.setExp x) = (readTx q n s).setExp x := by
  refine match_flips (s.txRec n).flips (monitorTx_setExp ..)
    ((congrArg (noteCorrected .transmit n q) (writeTx_setExp ..)).trans (noteCorrected_setExp ..))
    ((congrArg (noteUncorrected .transmit n q) ?_).trans (noteUncorrected_setExp ..))
  rw [apply_ite (State.setExp x), ← writeTx_setExp, ← writeTx_setExp, ← dropSlot_setExp]
  rfl

theorem makeRefreshing_setExp (n : Ctx) (x : ExpState) (s : State) : makeRefreshing n (s.setExp x) = (makeRefreshing n s).setExp x := by
  unfold makeRefreshing
  rw [apply_ite (State.setExp x), ← writeTx_setExp]
  rfl

theorem ackEntry_setExp (n : Ctx) (x : ExpState) (s : State) : ackEntry n (s.setExp x) = (ackEntry n s).setExp x := by
  unfold ackEntry
  dsimp only
  rw [readTx_setExp, apply_ite (State.setExp x), ← writeTx_setExp]
  rfl

theorem refreshEntry_setExp (n : Ctx) (x : ExpState) (s : State) : refreshEntry n (s.setExp x) = (refreshEntry n s).setExp x := by
  unfold refreshEntry
  dsimp only
  rw [readTx_setExp, apply_ite (State.setExp x), ← makeRefreshing_setExp]
  rfl

/-- The row of the last entry of a frame in work leaves the store as the row of an abandoned frame's entry does. -/
theorem exists_abandonedEntry {i : Instr} {f : State → State} (hf : ∀ x v, f (v.setExp x) = (f v).setExp x)
    (hwithin : OnlyChanges [.store, .stats, .stat] s (f s)) {v : State} (hv : v = s.setExp (.busy k (.feedback e [])))
    (hexec : exec i s = .next (endEntry none es (f s))) (hlast : exec i v = .next (endEntry (some k) [] (f v))) :
    ∃ t u, exec i s = .next t ∧ exec i v = .next u ∧ t.exp = .idle ∧ t.store = u.store ∧ t.stats = u.stats ∧ t.stat = u.stat ∧
      t.arb = u.arb ∧ OnlyChanges [.store, .stats, .stat, .exp, .arb] s t := by
  subst hv
  rw [hf] at hlast
  generalize f s = w at hexec hlast hwithin
  have hend : endEntry none es w = (w.setExp .idle).setArb (w.arb.ended w.store) := endTransaction_eq _
  have hlastEnd : endEntry (some k) [] (w.setExp (.busy k (.feedback e []))) =
    (releaseBuf k (w.setExp .idle)).setArb (w.arb.ended w.store) := endTransaction_eq _
  exact ⟨_, (releaseBuf k (w.setExp .idle)).setArb (w.arb.ended w.store), hexec.trans (congrArg _ hend), hlast.trans (congrArg _ hlastEnd), rfl, rfl, rfl, rfl, rfl,
    hwithin.andThen (onlyChanges_of_eq [.exp, .arb] rfl) rfl⟩

/-! ## Grants not used -/

theorem exec_expanderAbandonedGrant (hholds : s.holds .expander = true) (hexp : s.exp = .abandonedWaiting) :
    exec .expanderAbandonedGrant s = .next ((s.setExp .idle).setArb (s.arb.ended s.store)) :=
  congrArg Host.Outcome.next ((if_pos ⟨hholds, hexp⟩).trans (endTransaction_eq _))

theorem exec_takeAbandonedGrant {m : Message} {f : TxFormat} (hholds : s.holds .compressor = true)
    (hwork : s.comp.work = .taking m f .discard) :
    exec .takeAbandonedGrant s = .next (answerAbandoned none (countAborted (s.setArb (s.arb.ended s.store)))) := by
  refine congrArg Host.Outcome.next ?_
  rw [hwork, ← endTransaction_eq]
  exact if_pos hholds

theorem answerAbandoned_within (n : Option Ctx) (u : State) :
    OnlyChanges [.comp, .ltx, .stats, .stat, .arb] u (answerAbandoned n (countAborted u)) :=
  (onlyChanges_of_frame [.ltx, .stats, .stat] (countAborted_frame u)).andThen
    (onlyChanges_of_frame [.arb, .comp, .ltx] (answerAbandoned_frame n _)) rfl

end

/-- Settles O23: every row ends the Expander's or the Compressor's work. -/
theorem entryWriteAndAbandonedWork : Obligations.EntryWriteAndAbandonedWork := by
  refine ⟨fun s k e hexp => exists_next (exec_rxEntryWrite hexp) rfl ⟨rfl, rfl, rfl, ?entry⟩, fun s w i hholds hexp hi => ?expanded,
    fun s k e rest hholds hexp => ?feedback, fun s hholds hexp => exists_next (exec_expanderAbandonedGrant hholds hexp) rfl
      (by intro t; exact ⟨rfl, rfl, onlyChanges_of_eq _ rfl⟩), fun s m f hholds hwork => exists_next (exec_takeAbandonedGrant hholds hwork)
      rfl ⟨rfl, rfl, rfl, rfl, rfl, (onlyChanges_of_eq [.arb] rfl).andThen (answerAbandoned_within none _) rfl⟩⟩
  case entry =>
    exact (onlyChanges_of_frame [.host] (pushEntry_frame e s)).andThen (onlyChanges_of_eq [.exp, .lrx] rfl) rfl
  case expanded =>
    obtain ⟨hmessage, rfl⟩ := row_of hi
    exact exists_next (exec_row (expTransaction_of_abandoned hholds hexp) hmessage) (endExpTransaction_abandoned ..)
      (by intro t; exact ⟨rfl, rfl, rfl, rfl, rfl, rfl, (expanded_within w s).andThen (onlyChanges_of_eq [.exp, .arb] rfl) rfl⟩)
  case feedback =>
    intro i
    induction e with | mk kind n
    have hwork := expTransaction_of_abandoned hholds hexp
    have hlast : (s.setExp (.busy k (.feedback ⟨kind, n⟩ []))).expTransaction = _ := expTransaction_of_busy hholds rfl
    induction kind with
    | ack =>
      exact exists_abandonedEntry (ackEntry_setExp n) (onlyChanges_of_frame _ (ackEntry_frame n s)) rfl
        (exec_ackApply hwork) (exec_ackApply hlast)
    | refresh =>
      exact exists_abandonedEntry (refreshEntry_setExp n) (onlyChanges_of_frame _ (refreshEntry_frame n s)) rfl
        (exec_refreshApply hwork) (exec_refreshApply hlast)

end Sys2Proof.Machine

/-! PROOFS. The run-in code: what is encoded is read back (02 R19 to R24). -/

namespace Sys2Proof.Machine

theorem readX_xBits (n acc x : Nat) (rest : List Bool) : readX n acc (xBits n x ++ rest) = .ok (acc * 2 ^ n + x % 2 ^ n, rest) := by
  induction n generalizing acc with
  | zero => rw [Nat.pow_zero, Nat.mul_one, Nat.mod_one]; rfl
  | succ n ih =>
    refine (ih _).trans (congrArg (fun v => Except.ok (v, rest)) ?_)
    rw [Nat.mod_pow_succ, ← Nat.toNat_testBit, Nat.pow_succ, Nat.mul_comm (2 ^ n) 2, ← Nat.mul_assoc, Nat.mul_comm acc 2, Nat.add_mul,
      Nat.mul_comm (2 ^ n), Nat.add_assoc, Nat.add_comm (x % 2 ^ n)]

theorem readX_xBits_of_lt {n x : Nat} (rest : List Bool) (h : x < 2 ^ n) : readX n 0 (xBits n x ++ rest) = .ok (x, rest) := by
  rw [readX_xBits, Nat.zero_mul, Nat.zero_add, Nat.mod_eq_of_lt h]

/-- The word picked for `v` and its place among the words. -/
theorem pickWord_eq_some {ws : List CodeWord} {v : Nat} {p : CodeWord × Nat} (h : pickWord ws v = some p) :
    ∃ i, ws[i]? = some p.1 ∧ spanOf (ws.take i) + p.2 = v ∧ p.2 < 2 ^ p.1.x := by
  induction ws generalizing v with
  | nil => exact (Option.some_ne_none _ h.symm).elim
  | cons w ws ih =>
    by_cases hv : v < 2 ^ w.x
    · obtain rfl := Option.some.inj ((if_pos hv).symm.trans h)
      exact ⟨0, rfl, Nat.zero_add v, hv⟩
    · obtain ⟨i, hword, hspan, hx⟩ := ih ((if_neg hv).symm.trans h)
      exact ⟨i + 1, hword, (Nat.add_assoc (2 ^ w.x) _ _).trans ((congrArg _ hspan).trans (Nat.add_sub_cancel' (Nat.le_of_not_lt hv))), hx⟩

theorem pickWord_isSome_iff (ws : List CodeWord) (v : Nat) : (pickWord ws v).isSome = true ↔ v < spanOf ws := by
  induction ws generalizing v with
  | nil => exact iff_of_false Bool.false_ne_true (Nat.not_lt_zero v)
  | cons w ws ih =>
    by_cases hv : v < 2 ^ w.x
    · exact iff_of_true (congrArg Option.isSome (if_pos hv)) (Nat.lt_add_right _ hv)
    · exact (iff_of_eq (congrArg (Option.isSome · = true) (if_neg hv))).trans
        ((ih _).trans (Nat.sub_lt_iff_lt_add' (Nat.le_of_not_lt hv)))

section
variable {t : CodeTable}

theorem decode_of {i x : Nat} {w : CodeWord} {bits bs rest : List Bool} (hrun : t.readRun 0 bits = .ok (i, bs))
    (hword : t.codeWords[i]? = some w) (hx : readX w.x 0 bs = .ok (x, rest)) : t.decode bits = .ok (t.base i + x, rest) := by
  unfold CodeTable.decode
  rw [hrun]
  dsimp only
  rw [hword]
  dsimp only
  rw [hx]

theorem readRun_run {r : Nat} {bs : List Bool} (hend : t.endEntry ≠ some r) (hr : r + 1 ≠ 8) :
    t.readRun r (t.runBit :: bs) = t.readRun (r + 1) bs :=
  (if_pos rfl).trans ((if_neg hend).trans (if_neg hr))

theorem readRun_runs {m : Nat} {bs : List Bool} (hend : ∀ k, t.endEntry = some k → m ≤ k) (hm : m < 8) :
    t.readRun 0 (List.replicate m t.runBit ++ bs) = t.readRun m bs := by
  induction m generalizing bs with
  | zero => rfl
  | succ m ih =>
    rw [List.replicate_succ', List.append_assoc]
    exact (ih (fun k hk => Nat.le_of_succ_le (hend k hk)) (Nat.lt_of_succ_lt hm)).trans
      (readRun_run (fun hk => Nat.not_succ_le_self m (hend m hk)) hm.ne)

/-- A run closed by its terminating bit. -/
theorem readRun_terminated {i : Nat} (bs : List Bool) (hend : ∀ k, t.endEntry = some k → i ≤ k) (hi : i < 8) :
    t.readRun 0 (List.replicate i t.runBit ++ (!t.runBit) :: bs) = .ok (i, bs) :=
  (readRun_runs hend hi).trans (if_neg (Bool.not_ne_self _))

/-- The run of the last word of a table with an end entry. -/
theorem readRun_ended {k : Nat} (bs : List Bool) (hend : t.endEntry = some k) :
    t.readRun 0 (List.replicate (k + 1) t.runBit ++ bs) = .ok (k + 1, bs) := by
  obtain ⟨hk, -⟩ := List.findIdx?_eq_some_iff_getElem.mp hend
  rw [List.replicate_succ', List.append_assoc]
  exact (readRun_runs (fun j hj => (Option.some.inj (hend.symm.trans hj)).le) (hk.trans_eq (Vector.length_toList ..))).trans
    ((if_pos rfl).trans (if_pos hend))

theorem getElem?_map_range {α : Type} {f : Nat → α} {n i : Nat} {a : α} (h : ((List.range n).map f)[i]? = some a) :
    i < n ∧ f i = a := by
  obtain ⟨hi, hget⟩ := List.getElem?_eq_some_iff.mp h
  have hin : i < n := by simpa using hi
  exact ⟨hin, by simpa using hget⟩

theorem codeWords_of_none (hend : t.endEntry = none) : t.codeWords = (List.range 8).map fun r => ⟨r, true, t.effX r⟩ := by
  unfold CodeTable.codeWords
  rw [hend]

theorem codeWords_of_some {k : Nat} (hend : t.endEntry = some k) :
    t.codeWords = (List.range (k + 1)).map (fun r => ⟨r, true, t.effX r⟩) ++ [⟨k + 1, false, t.effX k⟩] := by
  unfold CodeTable.codeWords
  rw [hend]

/-- A word is the word of its run, closed by a terminating bit or the last of a table with an end entry. -/
theorem codeWords_cases {i : Nat} {w : CodeWord} (hw : t.codeWords[i]? = some w) :
    (w = ⟨i, true, t.effX i⟩ ∧ i < 8 ∧ ∀ k, t.endEntry = some k → i ≤ k) ∨
      ∃ k, t.endEntry = some k ∧ i = k + 1 ∧ w = ⟨k + 1, false, t.effX k⟩ := by
  cases hend : t.endEntry with
  | none =>
    obtain ⟨hi, hword⟩ := getElem?_map_range (codeWords_of_none hend ▸ hw)
    exact .inl ⟨hword.symm, hi, nofun⟩
  | some k =>
    obtain ⟨hk, -⟩ := List.findIdx?_eq_some_iff_getElem.mp hend
    rw [codeWords_of_some hend, List.getElem?_append, List.length_map, List.length_range] at hw
    by_cases hi : i < k + 1
    · obtain ⟨-, hword⟩ := getElem?_map_range ((if_pos hi).symm.trans hw)
      exact .inl ⟨hword.symm, (Nat.le_of_lt_succ hi).trans_lt (hk.trans_eq (Vector.length_toList ..)),
        fun j hj => Option.some.inj hj ▸ Nat.le_of_lt_succ hi⟩
    · obtain ⟨hlast, hword⟩ := List.getElem?_eq_some_iff.mp ((if_neg hi).symm.trans hw)
      exact .inr ⟨k, rfl, le_antisymm (Nat.sub_eq_zero_iff_le.mp (Nat.lt_one_iff.mp hlast)) (Nat.le_of_not_lt hi),
        hword.symm.trans (List.getElem_singleton ..)⟩

theorem readRun_word {i : Nat} {w : CodeWord} (bs : List Bool) (hw : t.codeWords[i]? = some w) :
    t.readRun 0 (List.replicate w.run t.runBit ++ ((if w.term then [!t.runBit] else []) ++ bs)) = .ok (i, bs) := by
  obtain ⟨rfl, hi, hbelow⟩ | ⟨k, hend, rfl, rfl⟩ := codeWords_cases hw
  · exact readRun_terminated bs hbelow hi
  · exact readRun_ended bs hend

theorem spanOf_codeWords_pos (t : CodeTable) : 0 < spanOf t.codeWords := by
  cases hend : t.endEntry with
  | none => exact codeWords_of_none hend ▸ Nat.add_pos_left (Nat.two_pow_pos _) _
  | some k =>
    rw [codeWords_of_some hend, List.range_succ_eq_map]
    exact Nat.add_pos_left (Nat.two_pow_pos _) _

end

/-- Settles O12: the word picked for a value is the one that its run names, and its x-bits are the rest of the value. -/
theorem codeRoundTrip : Obligations.CodeRoundTrip := by
  refine fun t v => ⟨fun bits rest h => ?_, ?_⟩
  · obtain ⟨p, hpick, rfl⟩ := Option.map_eq_some_iff.mp h
    obtain ⟨i, hword, rfl, hx⟩ := pickWord_eq_some hpick
    rw [CodeTable.wordBits, List.append_assoc, List.append_assoc]
    exact decode_of (readRun_word _ hword) hword (readX_xBits_of_lt rest hx)
  · refine (iff_of_eq (congrArg (· = true) (Option.isSome_map ..))).trans ((pickWord_isSome_iff ..).trans ?_)
    exact (Nat.le_sub_one_iff_lt (spanOf_codeWords_pos t)).symm

end Sys2Proof.Machine

/-! PROOFS. The visits of the Age Sweep (09 R143 to R149). -/

namespace Sys2Proof.Machine

section
variable {s u v : State} {i : BitVec 9} {n : Ctx}

theorem exec_sweepVisit (hholds : s.holds .sweep = true) (hidx : s.sweep.idx = some i) :
    exec .sweepVisit s = .next (endVisit i (visit i s)) := by
  refine congrArg Host.Outcome.next ?_
  rw [hidx]
  exact if_pos hholds

/-! ## The end of a visit -/

theorem endVisit_within (i : BitVec 9) (u : State) : OnlyChanges [.arb, .sweep] u (endVisit i u) :=
  onlyChanges_of_frame _ (endVisit_frame i u)

theorem endVisit_last (hi : i = 511) (hpend : u.sweep.pend = 0) :
    endVisit i u = (u.setSweep { u.sweep with idx := none }).setArb (u.arb.ended u.store) :=
  (if_pos hi).trans ((if_pos hpend).trans (endTransaction_eq _))

theorem endVisit_again (hi : i = 511) (hpend : u.sweep.pend ≠ 0) : endVisit i u =
    (u.setSweep ⟨some 0, u.sweep.pend - 1⟩).setArb ((u.arb.setWait true .sweep).ended u.store) :=
  (if_pos hi).trans ((if_neg hpend).trans (endAndRequest_eq ..))

theorem endVisit_next (hi : i ≠ 511) : endVisit i u =
    (u.setSweep { u.sweep with idx := some (i + 1) }).setArb ((u.arb.setWait true .sweep).ended u.store) :=
  (if_neg hi).trans (endAndRequest_eq ..)

/-- The sweep after the visit to index `i`. -/
noncomputable def sweepAfter (i : BitVec 9) (w : Sweep) : Sweep :=
  if i = 511 then if w.pend = 0 then { w with idx := none } else ⟨some 0, w.pend - 1⟩ else { w with idx := some (i + 1) }

theorem endVisit_sweep (i : BitVec 9) (u : State) : (endVisit i u).sweep = sweepAfter i u.sweep := by
  by_cases hi : i = 511
  · by_cases hpend : u.sweep.pend = 0
    · exact (congrArg State.sweep (endVisit_last hi hpend)).trans ((if_pos hi).trans (if_pos hpend)).symm
    · exact (congrArg State.sweep (endVisit_again hi hpend)).trans ((if_pos hi).trans (if_neg hpend)).symm
  · exact (congrArg State.sweep (endVisit_next hi)).trans (if_neg hi).symm

/-- The arbiter after the visit to index `i`: unless the pass is complete, the next visit is asked for. -/
noncomputable def askedAfter (i : BitVec 9) (w : Sweep) (a : Arbiter) : Arbiter :=
  if i = 511 ∧ w.pend = 0 then a else a.setWait true .sweep

theorem endVisit_arb (i : BitVec 9) (u : State) : (endVisit i u).arb = (askedAfter i u.sweep u.arb).ended u.store := by
  by_cases hi : i = 511
  · by_cases hpend : u.sweep.pend = 0
    · exact (congrArg State.arb (endVisit_last hi hpend)).trans (congrArg (Arbiter.ended u.store) (if_pos (And.intro hi hpend)).symm)
    · exact (congrArg State.arb (endVisit_again hi hpend)).trans (congrArg (Arbiter.ended u.store) (if_neg (hpend ∘ And.right)).symm)
  · exact (congrArg State.arb (endVisit_next hi)).trans (congrArg (Arbiter.ended u.store) (if_neg (hi ∘ And.left)).symm)

/-- What a visit leaves outlasts its end. -/
theorem endVisit_fields (h : visit i s = v) {a b c d} (hstore : v.store = a) (hstats : v.stats = b) (hstat : v.stat = c)
    (hfbq : v.fbq = d) :
    let t := endVisit i (visit i s)
    t.store = a ∧ t.stats = b ∧ t.stat = c ∧ t.fbq = d :=
  ⟨((endVisit_within i _).same .store rfl).trans ((congrArg State.store h).trans hstore),
    ((endVisit_within i _).same .stats rfl).trans ((congrArg State.stats h).trans hstats),
    ((endVisit_within i _).same .stat rfl).trans ((congrArg State.stat h).trans hstat),
    ((endVisit_within i _).same .fbq rfl).trans ((congrArg State.fbq h).trans hfbq)⟩

theorem endVisit_tables (h : visit i s = v) {a b c} (hstore : v.store = a) (hstats : v.stats = b) (hstat : v.stat = c) :
    let t := endVisit i (visit i s)
    t.store = a ∧ t.stats = b ∧ t.stat = c :=
  (endVisit_fields h hstore hstats hstat rfl).imp_right (And.imp_right And.left)

/-! ## What a visit does with its record -/

theorem RxState.keyed_of_cases {st : RxState} (h : st = .live ∨ st = .suspect ∨ st = .lost) : st.keyed = true :=
  h.elim (· ▸ rfl) (Or.elim · (· ▸ rfl) (· ▸ rfl))

theorem retires_iff {limit : Byte} {c : Contents} : retires limit c = true ↔ c.pinned = false ∧ limit ≠ 0 ∧ limit ≤ c.age := by
  have hfree : (!c.pinned && decide (limit ≠ 0)) = true ↔ c.pinned = false ∧ limit ≠ 0 :=
    Bool.and_eq_true_iff.trans (and_congr (iff_of_eq (Bool.not_eq_true' _)) decide_eq_true_iff)
  exact (Bool.and_eq_true_iff.trans (and_congr hfree decide_eq_true_iff)).trans and_assoc

theorem visit_rx (h : i.toNat = n.toNat) : visit i s = visitRx n s := by
  have hn : i.setWidth 8 = n := BitVec.eq_of_toNat_eq ((BitVec.toNat_setWidth ..).trans ((congrArg (· % 2 ^ 8) h).trans (Nat.mod_eq_of_lt n.isLt)))
  have hmsb : ¬ i.msb = true := by rw [BitVec.msb_eq_decide, decide_eq_true_iff, h]; exact Nat.not_le.mpr n.isLt
  exact (if_neg hmsb).trans (congrArg (visitRx · s) hn)

theorem visit_tx (h : i.toNat = n.toNat + 256) : visit i s = visitTx n s := by
  have hn : i.setWidth 8 = n := BitVec.eq_of_toNat_eq ((BitVec.toNat_setWidth ..).trans
    ((congrArg (· % 2 ^ 8) h).trans ((Nat.add_mod_right ..).trans (Nat.mod_eq_of_lt n.isLt))))
  have hmsb : i.msb = true := by rw [BitVec.msb_eq_decide, decide_eq_true_iff, h]; exact Nat.le_add_left ..
  exact (if_pos hmsb).trans (congrArg (visitTx · s) hn)

theorem ne_511_of_toNat (h : i.toNat = n.toNat) : i ≠ 511 := fun hi =>
  absurd (h.symm.trans (congrArg BitVec.toNat hi)) (n.isLt.trans (by decide)).ne

section
variable {r : Record RxState} (hr : (readRx .sweep n s).rxRec n = r)
include hr

theorem visitRx_of_bare (h : r.st = .free ∨ r.st = .damaged) : visitRx n s = readRx .sweep n s :=
  if_neg (hr ▸ ne_true_of_eq_false (RxState.keyed_eq_false_iff.mpr h))

theorem visitRx_of_due (hkeyed : r.st.keyed = true) (hdue : retires s.cfg.rxIdle (aged r.c) = true) :
    visitRx n s = raise .ctxAged (freeRxRecord n (readRx .sweep n s)) := by
  exact (if_pos (hr ▸ hkeyed)).trans (if_pos ((readRx_onlyChanges .sweep n s).same .cfg rfl ▸ hr ▸ hdue))

theorem visitRx_of_young (hkeyed : r.st.keyed = true) (hdue : ¬ retires s.cfg.rxIdle (aged r.c) = true) :
    visitRx n s = if r.st = .lost then offer ⟨.refresh, n⟩ (writeRx n r.st (aged r.c) (readRx .sweep n s))
      else writeRx n r.st (aged r.c) (readRx .sweep n s) := by
  subst hr
  exact (if_pos hkeyed).trans (if_neg ((readRx_onlyChanges .sweep n s).same .cfg rfl ▸ hdue))

theorem visitRx_of_lost (h : r.st = .lost) (hdue : ¬ retires s.cfg.rxIdle (aged r.c) = true) :
    visitRx n s = offer ⟨.refresh, n⟩ (writeRx n .lost (aged r.c) (readRx .sweep n s)) :=
  (visitRx_of_young hr (h ▸ rfl) hdue).trans ((if_pos h).trans (h ▸ rfl))

end

section
variable {r : Record TxState} (hr : (readTx .sweep n s).txRec n = r)
include hr

theorem visitTx_of_bare (h : r.st.slotted = false) : visitTx n s = readTx .sweep n s :=
  if_neg (hr ▸ ne_true_of_eq_false h)

theorem visitTx_of_due (hslotted : r.st.slotted = true) (hdue : retires s.cfg.txIdle (aged r.c) = true) :
    visitTx n s = raise .ctxAged (freeTxRecord n (readTx .sweep n s)) := by
  exact (if_pos (hr ▸ hslotted)).trans (if_pos ((readTx_onlyChanges .sweep n s).same .cfg rfl ▸ hr ▸ hdue))

theorem visitTx_of_young (hslotted : r.st.slotted = true) (hdue : ¬ retires s.cfg.txIdle (aged r.c) = true) :
    visitTx n s = writeTx n r.st (aged r.c) (readTx .sweep n s) := by
  subst hr
  exact (if_pos hslotted).trans (if_neg ((readTx_onlyChanges .sweep n s).same .cfg rfl ▸ hdue))

end

/-- A visit leaves the arbiter's view of the store as its checked read left it. -/
theorem visitRx_ended (n : Ctx) (s : State) (a : Arbiter) :
    a.ended (visitRx n s).store = a.ended (readRx .sweep n s).store := by
  have hwrite (st c) : a.ended (writeRx n st c (readRx .sweep n s)).store = a.ended (readRx .sweep n s).store :=
    (congrArg (fun v : State => a.ended v.store) (writeRx_eq n st c _) :)
  refine ite_keeps (P := fun v : State => a.ended v.store = _) (fun _ => ?_) fun _ => rfl
  refine ite_keeps (P := fun v : State => a.ended v.store = _) (fun _ => hwrite _ _) fun _ => ?_
  exact ite_keeps (P := fun v : State => a.ended v.store = _) (fun _ => (congrArg (Arbiter.ended · a)
    ((onlyChanges_of_frame [.fbq, .stats, .stat] (offer_frame _ _)).same .store rfl)).trans (hwrite _ _)) fun _ => hwrite _ _

theorem visitTx_ended (n : Ctx) (s : State) (a : Arbiter) :
    a.ended (visitTx n s).store = a.ended (readTx .sweep n s).store := by
  refine ite_keeps (P := fun v : State => a.ended v.store = _) (fun _ => ?_) fun _ => rfl
  exact ite_keeps (P := fun v : State => a.ended v.store = _)
    (fun _ => (congrArg (fun v : State => a.ended v.store) (freeTxRecord_eq n (readTx .sweep n s)) :))
    fun _ => (congrArg (fun v : State => a.ended v.store) (writeTx_eq ..) :)

/-- What a retired transmit record leaves. -/
theorem retired_fields {t : State} (h : t.store = (freeTxRecord n u).store) {R : Prop} (hR : R) :
    t.store = (freeTxRecord n u).store ∧ t.txRec n = ⟨.free, .zero, []⟩ ∧ t.refOf n = none ∧ t.isFree n = true ∧
      (∀ ref, u.refOf n = some ref → t.slotAt ref.bucket ref.slot = none) ∧ R := by
  exact ⟨h, (txRec_of_freed h n).trans (if_pos rfl), (refOf_of_freed h n).trans (if_pos rfl), (isFree_of_freed h n).trans (if_pos rfl),
    fun ref hn => (slotAt_of_freed h _ _).trans (if_pos hn), hR⟩

end

theorem readRx_fbq (q : Requester) (n : Ctx) (s : State) : (readRx q n s).fbq = s.fbq := (readRx_onlyChanges q n s).same .fbq rfl

theorem offer_store (e : FbEntry) (s : State) : (offer e s).store = s.store :=
  (onlyChanges_of_frame [.fbq, .stats, .stat] (offer_frame e s)).same .store rfl

theorem visit_within (i : BitVec 9) (s : State) : OnlyChanges [.store, .fbq, .stats, .stat] s (visit i s) :=
  onlyChanges_of_frame _ (visit_frame i s)

theorem visitRx_arb (n : Ctx) (s : State) : (visitRx n s).arb = (readRx .sweep n s).arb :=
  ((onlyChanges_of_frame [.store, .fbq, .stats, .stat] (visitRx_frame n s)).same .arb rfl).trans
    ((readRx_onlyChanges .sweep n s).same .arb rfl).symm

theorem visitTx_within (n : Ctx) (s : State) : OnlyChanges [.store, .stats, .stat] s (visitTx n s) :=
  onlyChanges_of_frame _ (visitTx_frame n s)

theorem visitTx_arb (n : Ctx) (s : State) : (visitTx n s).arb = (readTx .sweep n s).arb :=
  ((visitTx_within n s).same .arb rfl).trans ((readTx_onlyChanges .sweep n s).same .arb rfl).symm

theorem endVisit_rx_arb (i : BitVec 9) {n : Ctx} (s : State) (hi : i.toNat = n.toNat) : (endVisit i (visit i s)).arb =
    ((readRx .sweep n s).arb.setWait true .sweep).ended (readRx .sweep n s).store := by
  refine (congrArg State.arb (endVisit_next (ne_511_of_toNat hi))).trans ?_
  rw [visit_rx hi]
  exact (visitRx_ended n s _).trans (congrArg (fun a : Arbiter => (a.setWait true .sweep).ended _) (visitRx_arb n s))

theorem endVisit_tx_arb (i : BitVec 9) {n : Ctx} (s : State) (hi : i.toNat = n.toNat + 256) : (endVisit i (visit i s)).arb =
    (askedAfter i s.sweep (readTx .sweep n s).arb).ended (readTx .sweep n s).store := by
  refine (endVisit_arb i _).trans ?_
  rw [visit_tx hi]
  exact (visitTx_ended n s _).trans (congrArg₂ (fun w a => (askedAfter i w a).ended _) ((visitTx_within n s).same .sweep rfl) (visitTx_arb n s))

/-- Settles O40, by the state of the record and whether it is due. -/
theorem sweepVisits : Obligations.SweepVisits := by
  intro s i n hholds hidx
  refine exists_next (exec_sweepVisit hholds hidx) rfl ?_
  intro t
  refine ⟨(visit_within i s).andThen (endVisit_within i _) rfl,
    (endVisit_sweep i _).trans (congrArg (sweepAfter i) ((visit_within i s).same .sweep rfl)), fun hi => ?rx, fun hi => ?tx⟩
  case rx =>
    intro s1 r c due
    refine ⟨endVisit_rx_arb i s hi, fun h => ?bare, fun h hdue => ?due, fun h hdue => ?kept, fun h hdue => ?lost⟩
    case bare => exact endVisit_fields ((visit_rx hi).trans (visitRx_of_bare rfl h)) rfl rfl rfl (readRx_fbq ..)
    case due =>
      exact endVisit_fields ((visit_rx hi).trans ((visitRx_of_due rfl (RxState.keyed_of_cases h) (retires_iff.mpr hdue)).trans
        (congrArg (raise .ctxAged) (freeRxRecord_eq n s1)))) rfl rfl rfl (congrArg (List.filter _) (readRx_fbq ..))
    case kept =>
      exact endVisit_fields ((visit_rx hi).trans ((visitRx_of_young rfl (RxState.keyed_of_cases (h.imp_right .inl))
        (retires_iff.not.mpr hdue)).trans ((if_neg (h.elim (· ▸ RxState.noConfusion) (· ▸ RxState.noConfusion))).trans (writeRx_eq ..))))
        rfl rfl rfl (readRx_fbq ..)
    case lost =>
      exact endVisit_fields ((visit_rx hi).trans ((visitRx_of_lost rfl h (retires_iff.not.mpr hdue)).trans
        (congrArg (offer ⟨.refresh, n⟩) (writeRx_eq ..)))) (offer_store ..)
        ((offer_stats ..).trans (congrArg (fun q => s1.stats.counted (overflowCount q ⟨.refresh, n⟩)) (readRx_fbq ..)))
        ((offer_stat ..).trans (congrArg (fun q => (s1.stat.seesRx n .lost c).latched (overflowEvent q ⟨.refresh, n⟩)) (readRx_fbq ..)))
        ((offer_fbq ..).trans (congrArg (fun q => (offerTo q ⟨.refresh, n⟩).1) (readRx_fbq ..)))
  case tx =>
    intro s1 r c due
    refine ⟨?queue, endVisit_tx_arb i s hi, fun h => ?txBare, fun h hdue => ?txDue, fun h hdue => ?txKept⟩
    case queue =>
      exact ((endVisit_within i _).same .fbq rfl).trans ((congrArg State.fbq (visit_tx hi)).trans ((visitTx_within n s).same .fbq rfl))
    case txBare => exact endVisit_tables ((visit_tx hi).trans (visitTx_of_bare rfl h)) rfl rfl rfl
    case txDue =>
      have hleft := endVisit_tables ((visit_tx hi).trans (visitTx_of_due rfl h (retires_iff.mpr hdue))) (a := (freeTxRecord n s1).store)
        rfl (congrArg (Stats.counted [.ctxAged]) ((onlyChanges_of_frame [.store, .stat] (freeTxRecord_frame n s1)).same .stats rfl))
        (congrArg State.stat (freeTxRecord_eq n s1) :)
      exact retired_fields hleft.1 hleft.2
    case txKept =>
      exact endVisit_tables ((visit_tx hi).trans ((visitTx_of_young rfl h (retires_iff.not.mpr hdue)).trans (writeTx_eq ..))) rfl rfl rfl

end Sys2Proof.Machine

/-! PROOFS. Storage errors and checked reads (03 R48 to R58). -/

namespace Sys2Proof.Machine

/-! ## Changed bits (03 R48) -/

theorem mem_toggleBit {b c : Nat} {l : List Nat} (h : c ∈ toggleBit b l) : c = b ∨ c ∈ l := by
  induction l with
  | nil => exact .inl (List.mem_singleton.mp h)
  | cons x xs ih =>
    by_cases hx : b = x
    · exact .inr (List.mem_cons_of_mem x ((if_pos hx : toggleBit b (x :: xs) = xs) ▸ h))
    · have hcons : toggleBit b (x :: xs) = if b < x then b :: x :: xs else x :: toggleBit b xs := if_neg hx
      by_cases hlt : b < x
      · exact List.mem_cons.mp (hcons.trans (if_pos hlt) ▸ h)
      · exact (List.mem_cons.mp (hcons.trans (if_neg hlt) ▸ h)).elim (fun hc : c = x => .inr (hc ▸ List.mem_cons_self)) fun hc =>
          (ih hc).imp_right (List.mem_cons_of_mem x)

theorem length_toggleBit {b : Nat} {l : List Nat} (h : b ∉ l) : (toggleBit b l).length = l.length + 1 := by
  induction l with
  | nil => rfl
  | cons x xs ih =>
    obtain ⟨hx, hxs⟩ := not_or.mp (List.mem_cons.not.mp h)
    refine (congrArg List.length (if_neg hx)).trans ?_
    by_cases hlt : b < x
    · exact congrArg List.length (if_pos hlt)
    · exact (congrArg List.length (if_neg hlt)).trans (congrArg (· + 1) (ih hxs))

theorem length_toggleBits {bits l : List Nat} (hnodup : bits.Nodup) (h : ∀ b ∈ bits, b ∉ l) :
    (toggleBits bits l).length = l.length + bits.length := by
  induction bits generalizing l with
  | nil => rfl
  | cons b bs ih =>
    obtain ⟨hb, hbs⟩ := List.nodup_cons.mp hnodup
    refine (ih hbs fun c hc hmem => (mem_toggleBit hmem).elim (fun e : c = b => hb (e ▸ hc)) (h c (List.mem_cons_of_mem b hc))).trans ?_
    exact (congrArg (· + bs.length) (length_toggleBit (h b List.mem_cons_self))).trans (Nat.add_right_comm _ 1 _)

theorem length_toggleBits_of_clean {bits l : List Nat} (hnodup : bits.Nodup) (h : l = []) :
    (toggleBits bits l).length = bits.length :=
  (length_toggleBits hnodup fun _ _ => h ▸ List.not_mem_nil).trans (h ▸ Nat.zero_add _)

/-! ## Reports (03 R49, R50, R53, R55, R58) -/

section
variable {s : State} {d : Dir} {n : Ctx} {q : Requester}

/-- The state after a report that leaves the capture so. -/
noncomputable def reported (x : Option Capture) (lost : Bool) (s : State) : State :=
  s.setStore { s.store with capture := x, lost := lost }

theorem reportError_none (k : Capture) (h : s.store.capture = none) : reportError k s = reported (some k) s.store.lost s := by
  unfold reportError
  rw [h]
  rfl

theorem reportError_some (k : Capture) {c : Capture} (h : s.store.capture = some c) :
    reportError k s = reported (if c.uncorrected = false ∧ k.uncorrected = true then some k else some c) true s := by
  unfold reportError
  rw [h]
  by_cases hk : c.uncorrected = false ∧ k.uncorrected = true
  · exact (if_pos hk).trans (congrArg (reported · true s) (if_pos hk).symm)
  · exact (if_neg hk).trans (congrArg (reported · true s) (h.trans (if_neg hk).symm))

theorem reportError_corrected (k : Capture) (s : State) (hk : k.uncorrected = false) :
    reportError k s = reported (s.store.capture.or (some k)) (s.store.lost || s.store.capture.isSome) s := by
  cases h : s.store.capture with
  | none => exact (reportError_none k h).trans (congrArg (reported (some k) · s) (Bool.or_false _).symm)
  | some c => exact (reportError_some k h).trans (congrArg₂ (reported · · s)
      (if_neg fun hc => Bool.false_ne_true (hk.symm.trans hc.2)) (Bool.or_true _).symm)

theorem reportError_uncorrected (k : Capture) (s : State) (hk : k.uncorrected = true) : reportError k s =
    reported (if s.store.capture.any (·.uncorrected) then s.store.capture else some k)
      (s.store.lost || s.store.capture.isSome) s := by
  cases h : s.store.capture with
  | none => exact (reportError_none k h).trans (congrArg (reported (some k) · s) (Bool.or_false _).symm)
  | some c =>
    refine (reportError_some k h).trans (congrArg₂ (reported · · s) ?_ (Bool.or_true _).symm)
    by_cases hc : c.uncorrected = true
    · exact (if_neg fun hf => Bool.false_ne_true (hf.1.symm.trans hc)).trans (if_pos hc).symm
    · exact (if_pos ⟨eq_false_of_ne_true hc, hk⟩).trans (if_neg hc).symm

/-- The state after a corrected read is noted. -/
noncomputable def notedCorrected (d : Dir) (n : Ctx) (q : Requester) (s : State) : State :=
  ((s.setStore { s.store with
    capture := s.store.capture.or (some ⟨false, d, n, q⟩)
    lost := s.store.lost || s.store.capture.isSome }).setStats (s.stats.counted [.eccCorr])).setStat (s.stat.latched [.eccCorrected])

theorem noteCorrected_eq (d : Dir) (n : Ctx) (q : Requester) (s : State) : noteCorrected d n q s = notedCorrected d n q s :=
  reportError_corrected _ _ rfl

/-- A report that the store is judged by makes a READY store DEGRADED. -/
noncomputable def State.degrades (s : State) : Bool := decide (s.store.st = .ready) && s.mustDegrade

/-- The state after the store is judged. -/
noncomputable def judged (g : Bool) (s : State) : State :=
  (s.setStore { s.store with st := if g then .degraded else s.store.st }).setStat { s.stat with
    degraded := if g && !s.stat.degraded.live then ⟨true, true⟩ else s.stat.degraded }

theorem Alarm.to_true_eq (a : Alarm) : a.to true = if true && !a.live then ⟨true, true⟩ else a := by
  unfold Alarm.to
  induction a.live <;> rfl

theorem judged_eq (s : State) : (if s.mustDegrade then degrade s else s) = judged s.degrades s := by
  by_cases hmust : s.mustDegrade = true
  · by_cases hready : s.store.st = .ready
    · refine (if_pos hmust).trans ((if_pos hready).trans ?_)
      refine Eq.trans ?_ (congrArg (judged · s) (Bool.and_eq_true_iff.mpr ⟨decide_eq_true hready, hmust⟩ : s.degrades = true).symm)
      exact congrArg (fun a => (s.setStore { s.store with st := .degraded }).setStat { s.stat with degraded := a }) (Alarm.to_true_eq s.stat.degraded)
    · exact (if_pos hmust).trans ((if_neg hready).trans (congrArg (judged · s)
        (Bool.and_eq_false_iff.mpr (.inl (decide_eq_false hready)) : s.degrades = false).symm))
  · exact (if_neg hmust).trans (congrArg (judged · s)
      (Bool.and_eq_false_iff.mpr (.inr (Bool.eq_false_iff.mpr hmust)) : s.degrades = false).symm)

/-- The state after an uncorrected read is noted, with the verdict on the store. -/
noncomputable def notedUncorrected (d : Dir) (n : Ctx) (q : Requester) (g : Bool) (s : State) : State :=
  ((s.setStore { s.store with
    uncorr := satInc s.store.uncorr, st := if g then .degraded else s.store.st
    capture := if s.store.capture.any (·.uncorrected) then s.store.capture else some ⟨true, d, n, q⟩
    lost := s.store.lost || s.store.capture.isSome }).setStats (s.stats.counted [.eccUncorr])).setStat
    { s.stat.latched [.eccUncorrected] with
      degraded := if g && !s.stat.degraded.live then ⟨true, true⟩ else s.stat.degraded }

theorem noteUncorrected_eq (d : Dir) (n : Ctx) (q : Requester) (s : State) {g : Bool}
    (hg : (s.setStore { s.store with uncorr := satInc s.store.uncorr }).degrades = g) :
    noteUncorrected d n q s = notedUncorrected d n q g s :=
  hg ▸ (congrArg (reportError ⟨true, d, n, q⟩) (judged_eq _)).trans (reportError_uncorrected _ _ rfl)

/-! ## Reads, by the changed bits of the record -/

theorem match_flips_of_two_le {α : Type} {x y z : α} {bits : List Nat} (h : 2 ≤ bits.length) :
    (match (generalizing := false) bits with | [] => x | [_] => y | _ => z) = z := by
  induction bits with
  | nil => exact absurd h (by decide)
  | cons a l => induction l with
    | nil => exact absurd h (Nat.not_succ_le_self 1)
    | cons _ _ _ => rfl

section
variable {st : RxState} {c : Contents} {b : Nat} {bits : List Nat}

theorem readRx_of_clean (h : s.rxRec n = ⟨st, c, []⟩) : readRx q n s = s.setStat (s.stat.seesRx n st c) := by
  unfold readRx monitorRx
  rw [h]
  exact (apply_ite (s.setStat ·) _ _ _).symm

theorem readRx_by {r : Record RxState} (h : s.rxRec n = r) : readRx q n s =
    match (generalizing := false) r.flips with
    | [] => monitorRx n s
    | [_] => noteCorrected .receive n q (writeRx n r.st r.c s)
    | _ => noteUncorrected .receive n q (writeRx n (if r.st = .free then .free else .damaged) .zero s) := h ▸ rfl

theorem readRx_of_one (h : s.rxRec n = ⟨st, c, [b]⟩) : readRx q n s =
    noteCorrected .receive n q ((s.setStore (s.store.withRx n st c)).setStat (s.stat.seesRx n st c)) :=
  (readRx_by h).trans (congrArg (noteCorrected .receive n q) (writeRx_eq n st c s))

theorem readRx_of_many (h : s.rxRec n = ⟨st, c, bits⟩) (hbits : 2 ≤ bits.length) {st1 : RxState}
    (hst : (if st = .free then .free else .damaged) = st1) : readRx q n s =
    noteUncorrected .receive n q ((s.setStore (s.store.withRx n st1 .zero)).setStat (s.stat.seesRx n st1 .zero)) :=
  (readRx_by h).trans ((match_flips_of_two_le hbits).trans
    (congrArg (noteUncorrected .receive n q) ((congrArg (writeRx n · .zero s) hst).trans (writeRx_eq ..))))

end

section
variable {st : TxState} {c : Contents} {b : Nat} {bits : List Nat}

theorem readTx_of_clean (h : s.txRec n = ⟨st, c, []⟩) : readTx q n s = s.setStat (s.stat.seesTx n st c) := by
  unfold readTx monitorTx
  rw [h]
  exact (apply_ite (s.setStat ·) _ _ _).symm

theorem readTx_by {r : Record TxState} (h : s.txRec n = r) : readTx q n s =
    match (generalizing := false) r.flips with
    | [] => monitorTx n s
    | [_] => noteCorrected .transmit n q (writeTx n r.st r.c s)
    | _ => noteUncorrected .transmit n q
      (if r.st.slotted then writeTx n .damaged .zero (dropSlot n s) else writeTx n r.st .zero s) := h ▸ rfl

theorem readTx_of_one (h : s.txRec n = ⟨st, c, [b]⟩) : readTx q n s =
    noteCorrected .transmit n q ((s.setStore (s.store.withTx n st c)).setStat (s.stat.seesTx n st c)) :=
  (readTx_by h).trans (congrArg (noteCorrected .transmit n q) (writeTx_eq n st c s))

/-- The state after a read of a damaged record that leaves the index and the references so. -/
noncomputable def damagedTx (q : Requester) (n : Ctx) (st : TxState) (x : Vector (Vector (Option Slot) 4) 64)
    (r : Table (Option SlotRef)) (s : State) : State := noteUncorrected .transmit n q
  ((s.setStore { s.store.withTx n st .zero with index := x, refs := r }).setStat (s.stat.seesTx n st .zero))

theorem TxState.damaged_eq (st : TxState) : (if st = .free then .free else .damaged) = if st.slotted then .damaged else st := by
  induction st <;> rfl

/-- A damaged record is written, and its slot dropped when it has one. -/
theorem exists_readTx_of_many (q : Requester) (h : s.txRec n = ⟨st, c, bits⟩) (hbits : 2 ≤ bits.length) :
    ∃ x r, readTx q n s = damagedTx q n (if st.slotted then .damaged else st) x r s := by
  refine (dropSlot_eq n s).elim fun x hx => hx.elim fun r hdrop => ?_
  by_cases hslotted : st.slotted = true
  · exact ⟨x, r, (readTx_by h).trans ((match_flips_of_two_le hbits).trans (congrArg (noteUncorrected .transmit n q)
      ((if_pos hslotted).trans ((congrArg (writeTx n .damaged .zero) hdrop).trans
        ((writeTx_eq ..).trans (if_pos hslotted ▸ rfl))))))⟩
  · exact ⟨s.store.index, s.store.refs, (readTx_by h).trans ((match_flips_of_two_le hbits).trans (congrArg (noteUncorrected .transmit n q)
      ((if_neg hslotted).trans ((writeTx_eq ..).trans (if_neg hslotted ▸ rfl)))))⟩

theorem readTx_of_many (q : Requester) (h : s.txRec n = ⟨st, c, bits⟩) (hbits : 2 ≤ bits.length) {st1 : TxState}
    (hst : (if st = .free then .free else .damaged) = st1) :
    let t := readTx q n s
    t = damagedTx q n st1 t.store.index t.store.refs s := by
  obtain ⟨x, r, hread⟩ := exists_readTx_of_many q h hbits
  rw [← st.damaged_eq, hst] at hread
  have htables := noteUncorrected_tables .transmit n q ((s.setStore
    { s.store.withTx n st1 .zero with index := x, refs := r }).setStat (s.stat.seesTx n st1 .zero))
  exact hread.trans (congrArg₂ (damagedTx q n st1 · · s) ((congrArg (·.store.index) hread).trans htables.2.2.1).symm
    ((congrArg (·.store.refs) hread).trans htables.2.2.2.1).symm)

end

end

theorem seesRx_degraded (n : Ctx) (st : RxState) (c : Contents) (u : StatusUnit) : (u.seesRx n st c).degraded = u.degraded :=
  ite_keeps (P := fun v : StatusUnit => v.degraded = _) (fun _ => rfl) fun _ => rfl

theorem seesTx_degraded (n : Ctx) (st : TxState) (c : Contents) (u : StatusUnit) : (u.seesTx n st c).degraded = u.degraded :=
  ite_keeps (P := fun v : StatusUnit => v.degraded = _) (fun _ => rfl) fun _ => rfl

theorem alarmed_eq {u : StatusUnit} {a : Alarm} {g : Bool} (h : u.degraded = a) :
    { u.latched [.eccUncorrected] with degraded := if g && !u.degraded.live then ⟨true, true⟩ else u.degraded } =
      ({ u.latched [.eccUncorrected] with degraded := if g && !a.live then ⟨true, true⟩ else a } : StatusUnit) := h ▸ rfl

theorem dropsSlot_of_eq {s : State} {n : Ctx} {st : TxState} {c : Contents} {bits : List Nat} (h : s.txRec n = ⟨st, c, bits⟩)
    (hbits : 2 ≤ bits.length) : s.dropsSlot n = st.slotted := by
  unfold State.dropsSlot
  rw [h, decide_eq_true hbits, Bool.and_true]

theorem State.degrades_eq (s : State) : s.degrades = (decide (s.store.st = .ready) &&
    (s.store.capture.any (·.uncorrected) || decide (s.cfg.degThreshold ≠ 0 ∧ s.cfg.degThreshold ≤ s.store.uncorr))) := by
  have hheld : s.store.heldUncorrected = s.store.capture.any (·.uncorrected) := by
    unfold Store.heldUncorrected
    induction s.store.capture <;> rfl
  exact congrArg₂ (fun a b => decide (s.store.st = .ready) && (a || b)) hheld (Bool.decide_and ..).symm

/-- Settles O41: changed bits are counted up, and a read is by how many of them its record has. -/
theorem checkedReads : Obligations.CheckedReads := by
  refine ⟨fun s n bits => ⟨?rxError, ?txError⟩, fun s n q => ?reads⟩
  case rxError =>
    refine exists_next rfl rfl ?_
    intro t
    refine ⟨onlyChanges_of_eq _ rfl, rfl, fun k hk => Table.look_put_ne _ _ hk, ?st, ?c, fun hnodup hclean => ?flips⟩
    case st => exact (congrArg Record.st (Table.look_put_self ..) :)
    case c => exact (congrArg Record.c (Table.look_put_self ..) :)
    case flips =>
      exact (congrArg (fun r : Record RxState => r.flips.length) (Table.look_put_self ..) :).trans (length_toggleBits_of_clean hnodup hclean)
  case txError =>
    refine exists_next rfl rfl ?_
    intro t
    refine ⟨onlyChanges_of_eq _ rfl, rfl, fun k hk => Table.look_put_ne _ _ hk, ?st, ?c, fun hnodup hclean => ?flips⟩
    case st => exact (congrArg Record.st (Table.look_put_self ..) :)
    case c => exact (congrArg Record.c (Table.look_put_self ..) :)
    case flips =>
      exact (congrArg (fun r : Record TxState => r.flips.length) (Table.look_put_self ..) :).trans (length_toggleBits_of_clean hnodup hclean)
  case reads =>
    intro held atLimit degrades corrected uncorrected alarmed
    refine ⟨fun st c h => readRx_of_clean h, fun st c b h => ?rxOne, fun st c bits h hbits => ?rxMany,
      fun st c h => readTx_of_clean h, fun st c b h => ?txOne, fun st c bits h hbits => ?txMany⟩
    case rxOne =>
      intro t
      have hread := (readRx_of_one (q := q) h).trans (noteCorrected_eq ..)
      exact ⟨congrArg State.store hread, congrArg State.stats hread, congrArg State.stat hread, readRx_onlyChanges q n s⟩
    case txOne =>
      intro t
      have hread := (readTx_of_one (q := q) h).trans (noteCorrected_eq ..)
      exact ⟨congrArg State.store hread, congrArg State.stats hread, congrArg State.stat hread, readTx_onlyChanges q n s⟩
    case rxMany =>
      intro t st1
      have hread := (readRx_of_many (q := q) h hbits rfl).trans
        (noteUncorrected_eq (g := degrades) _ _ _ _ (State.degrades_eq _))
      exact ⟨congrArg State.store hread, congrArg State.stats hread, (congrArg State.stat hread).trans (alarmed_eq (seesRx_degraded ..)), readRx_onlyChanges q n s⟩
    case txMany =>
      intro t st1
      have hread := (readTx_of_many q h hbits rfl).trans
        (noteUncorrected_eq (g := degrades) _ _ _ _ (State.degrades_eq _))
      have hdrop := dropsSlot_of_eq h hbits
      refine ⟨congrArg State.store hread, fun hbare => ⟨?_, ?_⟩, fun hslotted => ⟨?_, fun k hk => ?_, fun b i => ?_⟩,
        congrArg State.stats hread, (congrArg State.stat hread).trans (alarmed_eq (seesTx_degraded ..)), readTx_onlyChanges q n s⟩
      · exact (readTx_index q n s).1.trans (if_neg (ne_true_of_eq_false (hdrop.trans hbare)))
      · exact (readTx_index q n s).2.1.trans (if_neg (ne_true_of_eq_false (hdrop.trans hbare)))
      · exact (readTx_refOf q n n s).trans (if_pos ⟨hdrop.trans hslotted, rfl⟩)
      · exact (readTx_refOf q n k s).trans (if_neg (hk ∘ And.right))
      · exact (readTx_slotAt q n b i s).trans (if_congr (and_iff_right (hdrop.trans hslotted)) rfl rfl)

end Sys2Proof.Machine
